-- ==== Sys2Proof/Word.lean ====
section
/-! DEFINITION. The word types of PF-CODEC. Every quantity is unsigned (spec 00_scope.md R12). -/

namespace Sys2Proof

/-- A byte, 8 bits (R13). -/
abbrev Byte := BitVec 8

/-- A 16-bit quantity: length, checksum, location, count, range bound. -/
abbrev Half := BitVec 16

/-- A 32-bit quantity: address, password, timeout. -/
abbrev Word := BitVec 32

end Sys2Proof
end

