-- ==== Sys2Proof/Config.lean ====
section
/-! DEFINITION. The parameters of PF-CODEC (spec 00_scope.md R6, R7, R8): the ones the spec fixes as
constants, the open ones as the fields of `Config`, and the values no document gives as constants
without a body. -/

namespace Sys2Proof

/-- The twenty status names, in the order of spec 30_encoding.md R110. -/
inductive Status where
  | ok | packetReceiveError | noFingerDetected | imageCaptureFailed | imageTooMessy
  | featureExtractionFailed | noMatch | notFound | enrollMismatch | invalidLocation
  | databaseRangeExceeded | uploadFeatureFailed | packetResponseFailed | uploadFailed
  | deleteFailed | databaseClearFailed | passwordFailed | invalidImage | flashError
  | unknown
  deriving DecidableEq, Repr

/-- The nineteen names a device reports: all but `unknown` (R110). -/
def deviceStatuses : List Status :=
  [.ok, .packetReceiveError, .noFingerDetected, .imageCaptureFailed, .imageTooMessy,
   .featureExtractionFailed, .noMatch, .notFound, .enrollMismatch, .invalidLocation]
  ++ [.databaseRangeExceeded, .uploadFeatureFailed, .packetResponseFailed, .uploadFailed,
   .deleteFailed, .databaseClearFailed, .passwordFailed, .invalidImage, .flashError]

/-- STATUS_TABLE (R8, R111): the byte of each device-reported name, as rows. A byte without a row
has the name `unknown`. -/
abbrev StatusTable := List (Byte × Status)

/-- A transport configuration that discovery tries (R8 CANDIDATES). -/
structure Candidate where
  txPin : Nat
  rxPin : Nat
  baud  : Nat
  deriving DecidableEq, Repr

/-- The open parameters of R8, fixed for the life of an instance (10_state.md R37), and the
transport's `read_timeout` (20_memory.md R62). -/
structure Config where
  /-- CHK_STRICT: true is 1 (reject a checksum mismatch), false is 0 (R158). -/
  chkStrict     : Bool
  /-- STATUS_TABLE (R111). -/
  statusTable   : StatusTable
  /-- TICK_PERIOD: no rule depends on it (R302), so nothing reads it. -/
  tickPeriod    : Nat
  /-- NOFINGER_DELAY in ticks (R244). -/
  nofingerDelay : Nat
  /-- LIFT_DELAY in ticks (R249). -/
  liftDelay     : Nat
  /-- DB_RANGE_LOW (R116). -/
  dbRangeLow    : Half
  /-- DB_RANGE_HIGH (R116). -/
  dbRangeHigh   : Half
  /-- VERIFY_TIMEOUT in ticks (R252). -/
  verifyTimeout : Word
  /-- CANDIDATES, tried in list order (R252). -/
  candidates    : List Candidate
  /-- The `read_timeout` of the transports discovery constructs: the block never reads it (R22). -/
  readTimeout   : Nat
  /-- SESSION_ADDR (R252). -/
  sessionAddr   : Word
  /-- SESSION_PWD (R252). -/
  sessionPwd    : Word
  deriving DecidableEq, Repr

/-- RX_CAP, the capacity of RXBUF (R7, R26). -/
def RX_CAP : Nat := 65544

/-- MAX_PAYLOAD, the longest payload ENCODE accepts (R7, R135). -/
def MAX_PAYLOAD : Nat := 65533

/-- MIN_DECODE, the length gate of DECODE (R6, R151). -/
def MIN_DECODE : Nat := 12

/-- HDR_LEN, the frame offset of the first payload byte (R6). -/
def HDR_LEN : Nat := 9

/-- RETRY_CEILING, the capture attempts of capture-with-retry (R6, R242). -/
def RETRY_CEILING : Nat := 10

/-! The parameters for which no document gives a value or a default (R8, 93_implementation_defined.md
U3, U4, U9, U11, U13): constants without a body, used in the parameters of the reset state only. -/

/-- TICK_PERIOD of the instance. -/
opaque Config.freeTickPeriod : Nat
/-- NOFINGER_DELAY of the instance. -/
opaque Config.freeNofingerDelay : Nat
/-- LIFT_DELAY of the instance. -/
opaque Config.freeLiftDelay : Nat
/-- DB_RANGE_LOW of the instance. -/
opaque Config.freeDbRangeLow : Half
/-- DB_RANGE_HIGH of the instance. -/
opaque Config.freeDbRangeHigh : Half
/-- VERIFY_TIMEOUT of the instance. -/
opaque Config.freeVerifyTimeout : Word
/-- CANDIDATES of the instance. -/
opaque Config.freeCandidates : List Candidate
/-- The transports' `read_timeout`. -/
opaque Config.freeReadTimeout : Nat
/-- SESSION_ADDR of the instance. -/
opaque Config.freeSessionAddr : Word
/-- SESSION_PWD of the instance. -/
opaque Config.freeSessionPwd : Word

end Sys2Proof
end

