-- ==== Sys2Proof/Syntax.lean ====
section
/-! DEFINITION. The instructions of PF-CODEC: the nine commands of spec/opcode_table.json
(30_encoding.md R101), and the packet kinds of a frame (R93, R103). -/

namespace Sys2Proof

/-- A command with its arguments, each of the width R99 and R100 give it. -/
inductive Instr where
  /-- capture-image() (R222). -/
  | captureImage
  /-- image-to-template(slot) (R223). -/
  | imageToTemplate (slot : Byte)
  /-- search(slot, range-low, range-high) (R226). -/
  | search (slot : Byte) (rangeLow rangeHigh : Half)
  /-- register-model() (R224). -/
  | registerModel
  /-- store-model(slot, location) (R225). -/
  | storeModel (slot : Byte) (location : Half)
  /-- delete-model(location, count) (R227). -/
  | deleteModel (location count : Half)
  /-- empty-database() (R228). -/
  | emptyDatabase
  /-- verify-password(password) (R221). -/
  | verifyPassword (password : Word)
  /-- template-count() (R229). -/
  | templateCount
  deriving DecidableEq, Repr

/-- The four enumerated packet kinds (R93), the type of ENCODE's kind operand (R133, R135). -/
inductive Kind where
  | command | data | ack | endOfData
  deriving DecidableEq, Repr

/-- The class of a received kind byte (41_codec_decode.md R159). -/
inductive KindClass where
  | known (k : Kind)
  | reserved
  deriving DecidableEq, Repr

end Sys2Proof
end

