-- ==== Sys2Proof/WellFormed.lean ====
section
/-! DEFINITION. What is well formed: a command, a raw payload that EXEC or ENCODE accepts, a status
table and the parameters that hold it. -/

namespace Sys2Proof

/-- Every command is well formed: each argument has its width by its type, and no argument is
range-checked, "any value of the argument's width is encoded as given" (R100). -/
def Instr.wf : Instr → Bool
  | .captureImage => true
  | .imageToTemplate _ => true
  | .search _ _ _ => true
  | .registerModel => true
  | .storeModel _ _ => true
  | .deleteModel _ _ => true
  | .emptyDatabase => true
  | .verifyPassword _ => true
  | .templateCount => true

/-- A payload EXEC accepts has 1 to MAX_PAYLOAD bytes (R183). -/
def Payload.wf (p : List Byte) : Bool := decide (1 ≤ p.length ∧ p.length ≤ MAX_PAYLOAD)

/-- A payload ENCODE accepts has at most MAX_PAYLOAD bytes (R135). -/
def Payload.encodable (p : List Byte) : Bool := decide (p.length ≤ MAX_PAYLOAD)

/-- What R111 fixes about STATUS_TABLE: every device-reported name has exactly one byte, no other
name has a row, every byte is in 0x00..0x18, and no byte has two rows. -/
def StatusTable.wf (t : StatusTable) : Bool :=
  deviceStatuses.all (fun n => (t.filter (fun r => decide (r.2 = n))).length == 1)
    && t.all (fun r => decide (r.2 ≠ .unknown) && decide (r.1.toNat ≤ 0x18))
    && decide (t.map (fun r => r.1)).Nodup

/-- Parameters are well formed when their status table is; every other parameter may have any value
of its type (R8). -/
def Config.wf (c : Config) : Bool := StatusTable.wf c.statusTable

end Sys2Proof
end

