-- ==== Sys2Proof/Decode.lean ====
section
/-! DEFINITION. Command payloads to and from bytes (spec 30_encoding.md R99 to R102), with the
big-endian byte order of 00_scope.md R13 and 40_codec_encode.md R132. -/

namespace Sys2Proof

/-- `be16(v)`: most significant byte first (R13, R132). -/
def be16 (v : Half) : List Byte := [v.extractLsb' 8 8, v.extractLsb' 0 8]

/-- `be32(v)`: most significant byte first (R13, R132). -/
def be32 (v : Word) : List Byte :=
  [v.extractLsb' 24 8, v.extractLsb' 16 8, v.extractLsb' 8 8, v.extractLsb' 0 8]

/-- The 16-bit number of two bytes, the high one first (R13). -/
def u16 (hi lo : Byte) : Half := hi ++ lo

/-- The 32-bit number of four bytes, the highest first (R13). -/
def u32 (b3 b2 b1 b0 : Byte) : Word := b3 ++ b2 ++ b1 ++ b0

/-- Why a payload is none of the nine commands (R102). -/
inductive DecodeReject where
  /-- No opcode byte. -/
  | emptyPayload
  /-- One of the 247 unassigned opcodes (R101). -/
  | unassignedOpcode (op : Byte)
  /-- An assigned opcode with a number of argument bytes other than its format's (R99). -/
  | wrongLength (op : Byte)
  deriving DecidableEq, Repr

/-- What a payload decodes to. -/
inductive Decoded where
  | instr (i : Instr)
  | reject (r : DecodeReject)
  deriving DecidableEq, Repr

/-- The command of an opcode byte and the bytes after it (R99, R101). -/
def decodeArgs (op : Byte) (args : List Byte) : Decoded :=
  if op = 0x01 then
    match args with
    | [] => .instr .captureImage
    | _ => .reject (.wrongLength op)
  else if op = 0x02 then
    match args with
    | [s] => .instr (.imageToTemplate s)
    | _ => .reject (.wrongLength op)
  else if op = 0x04 then
    match args with
    | [s, l1, l0, h1, h0] => .instr (.search s (u16 l1 l0) (u16 h1 h0))
    | _ => .reject (.wrongLength op)
  else if op = 0x05 then
    match args with
    | [] => .instr .registerModel
    | _ => .reject (.wrongLength op)
  else if op = 0x06 then
    match args with
    | [s, l1, l0] => .instr (.storeModel s (u16 l1 l0))
    | _ => .reject (.wrongLength op)
  else if op = 0x0C then
    match args with
    | [l1, l0, c1, c0] => .instr (.deleteModel (u16 l1 l0) (u16 c1 c0))
    | _ => .reject (.wrongLength op)
  else if op = 0x0D then
    match args with
    | [] => .instr .emptyDatabase
    | _ => .reject (.wrongLength op)
  else if op = 0x13 then
    match args with
    | [p3, p2, p1, p0] => .instr (.verifyPassword (u32 p3 p2 p1 p0))
    | _ => .reject (.wrongLength op)
  else if op = 0x1D then
    match args with
    | [] => .instr .templateCount
    | _ => .reject (.wrongLength op)
  else .reject (.unassignedOpcode op)

/-- The command a payload spells, total on any bytes (R99, R102). -/
def decode : List Byte → Decoded
  | [] => .reject .emptyPayload
  | op :: args => decodeArgs op args

/-- The payload of a command: the opcode byte, then the arguments in wire order (R99, R101). -/
def encode : Instr → List Byte
  | .captureImage => [0x01]
  | .imageToTemplate s => [0x02, s]
  | .search s l h => [0x04, s] ++ be16 l ++ be16 h
  | .registerModel => [0x05]
  | .storeModel s l => [0x06, s] ++ be16 l
  | .deleteModel l c => [0x0C] ++ be16 l ++ be16 c
  | .emptyDatabase => [0x0D]
  | .verifyPassword p => [0x13] ++ be32 p
  | .templateCount => [0x1D]

/-- The `n` payload bytes that the opcode table writes as the number `w` of 8n bits, payload byte 0
in the most significant byte (R13). -/
def wordBytes : Nat → Nat → List Byte
  | 0, _ => []
  | n + 1, w => BitVec.ofNat 8 (w >>> (8 * n)) :: wordBytes n w

/-- The number of 8n bits the opcode table writes for `n` payload bytes (R13). -/
def bytesWord (p : List Byte) : Nat := p.foldl (fun a b => a * 256 + b.toNat) 0

/-- The instruction the decoder reads from a table word. The table numbers a whole payload as one
number, payload byte 0 most significant (R13), so the word's bytes are taken from the top. -/
def decodeTableWord (nbits w : Nat) : Option Instr :=
  match decode (wordBytes (nbits / 8) w) with
  | .instr i => some i
  | .reject _ => none

end Sys2Proof
end

