-- ==== Sys2Proof/Machine/Status.lean ====
section
/-! DEFINITION. The status byte: STATUS(b) under a table (spec 30_encoding.md R111) and the default
table (R112). -/

namespace Sys2Proof.Machine

open Sys2Proof

/-- `STATUS(b)`: the name the table gives the byte, `unknown` where it gives none (R111). -/
def statusName (t : StatusTable) (b : Byte) : Status :=
  match t.lookup b with
  | some n => n
  | none => .unknown

/-- The default STATUS_TABLE (R112). PRESUMED (log 10): the spec marks it as general knowledge. -/
def defaultStatusTable : StatusTable :=
  [(0x00, .ok), (0x01, .packetReceiveError), (0x02, .noFingerDetected),
   (0x03, .imageCaptureFailed), (0x06, .imageTooMessy), (0x07, .featureExtractionFailed),
   (0x08, .noMatch), (0x09, .notFound), (0x0A, .enrollMismatch), (0x0B, .invalidLocation)]
  ++ [(0x0C, .databaseRangeExceeded), (0x0D, .uploadFeatureFailed), (0x0E, .packetResponseFailed),
   (0x0F, .uploadFailed), (0x10, .deleteFailed), (0x11, .databaseClearFailed),
   (0x13, .passwordFailed), (0x15, .invalidImage), (0x18, .flashError)]

end Sys2Proof.Machine
end

