-- ==== Sys2Proof/Machine/State.lean ====
section
/-! DEFINITION. The state of PF-CODEC (spec 10_state.md), of its transport and of the HOST agent, the
events of its agents (00_scope.md R10), and the state after reset (R33). -/

namespace Sys2Proof.Machine

open Sys2Proof

/-! ## The block's registers -/

/-- ENG (R25). The value 3 is never produced and has no constructor. -/
inductive Eng where
  | closed | idle | wait
  deriving DecidableEq, Repr

/-- The codes of ENG (R25). -/
def Eng.code : Eng → BitVec 2
  | .closed => 0
  | .idle => 1
  | .wait => 2

/-- RES (R28). -/
inductive Res where
  | none | response | timedOut | malformed
  deriving DecidableEq, Repr

/-- The codes of RES (R28, R281). -/
def Res.code : Res → BitVec 2
  | .none => 0
  | .response => 1
  | .timedOut => 2
  | .malformed => 3

/-- MREASON (R28). The values 5 to 7 are never produced and have no constructor. -/
inductive MReason where
  | none | badMarker | badLength | badChecksum | emptyPayload
  deriving DecidableEq, Repr

/-- The codes of MREASON (R28, R281). -/
def MReason.code : MReason → BitVec 3
  | .none => 0
  | .badMarker => 1
  | .badLength => 2
  | .badChecksum => 3
  | .emptyPayload => 4

/-- The reason of a Malformed verdict of DECODE (R150). -/
inductive Defect where
  | badMarker | badLength | badChecksum
  deriving DecidableEq, Repr

/-- The MREASON code of a DECODE reason (R188). -/
def Defect.reason : Defect → MReason
  | .badMarker => .badMarker
  | .badLength => .badLength
  | .badChecksum => .badChecksum

/-- The fields of a Frame verdict (R150). -/
structure Frame where
  addr     : Word
  kind     : Byte
  len      : Half
  payload  : List Byte
  rxCsum   : Half
  calcCsum : Half
  csumOk   : Bool
  deriving DecidableEq, Repr

/-- The verdict of DECODE (R150). -/
inductive Verdict where
  | needMoreData
  | malformed (d : Defect)
  | frame (f : Frame)
  deriving DecidableEq, Repr

/-- A byte space of the block that is dense from index 0 (20_memory.md R60): the bytes at indices
0 to length-1, none above. One list is one content, so equal memories are equal data (log 13). -/
abbrev Memory := List Byte

/-- The (index, byte) pairs of a byte space, from the index `n` on. -/
def Memory.cellsFrom : Nat → Memory → List Host.Cell
  | _, [] => []
  | n, b :: m => (n, b) :: Memory.cellsFrom (n + 1) m

/-- The (index, byte) pairs of a byte space. -/
def Memory.cells (m : Memory) : List Host.Cell := Memory.cellsFrom 0 m

/-- RXBUF holds at most RX_CAP bytes (R26, R38a). -/
abbrev Memory.wf (m : Memory) : Prop := m.length ≤ RX_CAP

/-! ## What HOST asks and receives -/

/-- The refusals of an operation (60_exceptions.md R283). The operation changes nothing. -/
inductive OpRefusal where
  | notOpen | alreadyOpen | busy | badPayloadLength
  deriving DecidableEq, Repr

/-- The registers HOST reads by name (10_state.md R32). RXBUF and RXLEN are not among them (R26). -/
inductive Reg where
  | addr | pwd | eng | tmo | timer | res | mreason | stRaw | st | extra | exlen
  | rxAddr | rxKind | rxLen | rxCsum | calcCsum | csumOk | busy | done
  deriving DecidableEq, Repr

/-- The value a register read returns. -/
inductive RegValue where
  /-- A register of `width` bits. -/
  | bits (width value : Nat)
  /-- ST while it holds a name. -/
  | status (n : Status)
  /-- EXTRA. -/
  | bytes (s : List Byte)
  /-- The register holds no value (R29, R33). -/
  | absent
  deriving DecidableEq, Repr

/-- `cause(r)` of 44_host_sequences.md (R248): the status name, or the outcome without a status. -/
inductive Cause where
  | status (n : Status)
  | timedOut
  | malformed
  /-- No transaction has ended: no rule takes the cause of that, and no sequence reaches it. -/
  | noOutcome
  deriving DecidableEq, Repr

/-- How HOST reads the response of a command (43_commands.md R220 to R229). -/
inductive Reading where
  /-- DONE = 0: the transaction has not ended (R192). -/
  | pending
  /-- The device reports success and the command has no layout for its extras. -/
  | success
  /-- capture-image answered NoFingerDetected, the one status HOST retries on (R222). -/
  | noFingerYet
  /-- search found a match (R226). -/
  | matched (id confidence : Half)
  /-- search answered a status other than Ok (R226). -/
  | noMatch (n : Status)
  /-- template-count answered with the count (R229). -/
  | count (n : Half)
  /-- Ok with an EXTRA shorter than the command's layout (R220f). -/
  | shortExtras
  /-- Any other end of the command. -/
  | failure (c : Cause)
  deriving DecidableEq, Repr

/-- What HOST received for its latest operation (00_scope.md R11, 10_state.md R32). -/
inductive Reply where
  | none
  | accepted
  | refused (r : OpRefusal)
  | value (v : RegValue)
  | reading (r : Reading)
  | encoded (s : List Byte)
  | decoded (v : Verdict)
  | csum (c : Half)
  deriving DecidableEq, Repr

/-! ## Host sequences -/

/-- The six phases of enroll (R248). -/
inductive EnrollPhase where
  | captureFirst | convertFirst | captureSecond | convertSecond | register | store
  deriving DecidableEq, Repr

/-- The commands of identify, in order (R245). -/
inductive IdentifyPhase where
  | capture | convert | search
  deriving DecidableEq, Repr

/-- A host sequence as its caller asks for it (R256, R241, R242). -/
inductive Request where
  | verifyPassword (timeout : Word)
  | captureWithRetry (timeout : Word)
  | identify (timeout : Word)
  | enroll (location : Half) (timeout : Word)
  | discover
  deriving DecidableEq, Repr

/-- A running sequence and its position (10_state.md R36b). -/
inductive Task where
  | verifyPassword (timeout : Word)
  | captureWithRetry (timeout : Word)
  | identify (timeout : Word) (phase : IdentifyPhase)
  | enroll (location : Half) (timeout : Word) (phase : EnrollPhase)
  /-- The candidates not tried yet (R252). -/
  | discover (left : List Candidate)
  deriving DecidableEq, Repr

/-- What HOST does next in the sequence. -/
inductive Activity where
  /-- discover: attach the next candidate's transport and OPEN (R252). -/
  | attach
  /-- Issue the EXEC of the present position. -/
  | issue
  /-- The EXEC is issued; HOST waits for DONE (R192). -/
  | await
  /-- HOST waits so many more ticks, then issues (R244, R249). -/
  | delay (ticks : Nat)
  /-- discover: CLOSE the failed candidate's session (R252). -/
  | close
  deriving DecidableEq, Repr

/-- The state HOST holds while a sequence runs (10_state.md R36). -/
structure Sequence where
  task : Task
  act  : Activity
  /-- ATT, the attempts of the present capture-with-retry (R242). -/
  att  : Nat
  deriving DecidableEq, Repr

/-- What a sequence returns to its caller (R241 to R256). -/
inductive SeqResult where
  | authenticated
  | authFailed
  | captured
  | captureTimeout
  | failed (c : Cause)
  | matched (id confidence : Half)
  | notFound
  | protocolError
  | stored (location : Half)
  | phaseFailed (p : EnrollPhase) (c : Cause)
  | session
  | noDeviceFound
  deriving DecidableEq, Repr

/-! ## The transport and the events -/

/-- TCFG, the construction parameters of a transport (R22, R62). The block never reads it. -/
structure TransportConfig where
  txPin       : Nat
  rxPin       : Nat
  baud        : Nat
  readTimeout : Nat
  deriving DecidableEq, Repr

/-- A transport the block was attached to before (R252). -/
structure Transport where
  tcfg  : Option TransportConfig
  rxq   : List Byte
  txlog : List Byte
  deriving DecidableEq, Repr

/-- An operation of HOST. -/
inductive HostOp where
  /-- OPEN(address, password) (R181). -/
  | openSession (address password : Word)
  /-- CLOSE() (R182). -/
  | closeSession
  /-- EXEC(payload, timeout) (R183). -/
  | exec (payload : List Byte) (timeout : Word)
  /-- Read a register by name (R32). -/
  | read (r : Reg)
  /-- Read the outcome of the latest command as its rule says (R220). -/
  | readOutcome
  /-- ENCODE used alone (R133, R283). -/
  | encodeFrame (address : Word) (kind : Kind) (payload : List Byte)
  /-- DECODE used alone (R150). -/
  | decodeFrame (buffer : List Byte)
  /-- CSUM16 used alone (R130). -/
  | csum16 (s : List Byte)
  /-- Construct a transport and attach the block to it (R252, R323). -/
  | attach (c : TransportConfig)
  /-- Start a host sequence (R256). -/
  | start (r : Request)
  /-- Take the next step of the running sequence (R240). -/
  | turn
  /-- Abandon the running sequence (R251). -/
  | cancel
  deriving DecidableEq, Repr

/-- Events that an implementation sees in one cycle (60_exceptions.md R290). -/
structure Cycle where
  reset : Bool
  op    : Option HostOp
  rx    : Option Nat
  tick  : Bool
  deriving DecidableEq, Repr

/-- A step of one agent (00_scope.md R10). -/
inductive Event where
  | host (op : HostOp)
  /-- RX whose read asks for `k` bytes (R185, R64). -/
  | rx (k : Nat)
  /-- TICK (R189). -/
  | tick
  /-- DEVICE appends bytes to RXQ (R23). -/
  | device (s : List Byte)
  /-- The reset event (R320). -/
  | reset
  /-- Several events presented at once (R290). -/
  | sameCycle (c : Cycle)
  deriving DecidableEq, Repr

/-! ## How the machine stops -/

/-- The faults. -/
inductive Fault where
  /-- Raised by EXEC in ENG = IDLE while ADDR holds no value, which no rule may read (R33). Safe:
  no reachable state is one (R38g), and where the hardware would go on the model stops (log 20). -/
  | addrNoValue
  deriving DecidableEq, Repr

/-- The refusals of the model. -/
inductive Refusal where
  /-- Raised by `exec` for an instruction without a meaning yet; none is left. Safe. -/
  | notModelled (mnemonic : String)
  /-- Raised when HOST starts a second sequence while one runs: "outside what this spec gives a
  meaning to" (20_memory.md R76), treatment "refuse" (93_implementation_defined.md U17; log 16). Safe. -/
  | interleavedSequences
  deriving DecidableEq, Repr

/-! ## The state -/

/-- The whole state: the block (R20), its transport (R22, R23), HOST (R36) and the parameters (R37). -/
structure State where
  /-- The parameters of the instance; no event changes them (R37). -/
  cfg       : Config
  /-- ENG (R25). -/
  eng       : Eng
  /-- ADDR (R21); none is "no value". -/
  addr      : Option Word
  /-- PWD (R21); none is "no value". -/
  pwd       : Option Word
  /-- RXBUF, the bytes that hold a value; their number is RXLEN (R26). -/
  rxbuf     : Memory
  /-- TMO (R27). -/
  tmo       : Word
  /-- TIMER (R27). -/
  timer     : Word
  /-- RES (R28). -/
  res       : Res
  /-- MREASON (R28). -/
  mreason   : MReason
  /-- ST_RAW (R29). -/
  stRaw     : Byte
  /-- ST (R29); none is "no value". -/
  st        : Option Status
  /-- EXTRA (R29); its length is EXLEN. -/
  extra     : List Byte
  /-- RX_ADDR (R30). -/
  rxAddr    : Word
  /-- RX_KIND (R30). -/
  rxKind    : Byte
  /-- RX_LEN (R30). -/
  rxLen     : Half
  /-- RX_CSUM (R30). -/
  rxCsum    : Half
  /-- CALC_CSUM (R30). -/
  calcCsum  : Half
  /-- CSUM_OK (R31). -/
  csumOk    : Bool
  /-- RXQ (R23). -/
  rxq       : List Byte
  /-- TXLOG (R23). -/
  txlog     : List Byte
  /-- TCFG of the attached transport, none where HOST has constructed none (R22). -/
  tcfg      : Option TransportConfig
  /-- The transports the block was attached to before, oldest first (R252). -/
  parked    : List Transport
  /-- What HOST received for its latest operation (R11). -/
  reply     : Reply
  /-- The command of HOST's latest accepted EXEC, none for a raw payload (R220d). -/
  lastCmd   : Option Instr
  /-- The running host sequence (R36). -/
  seq       : Option Sequence
  /-- What the latest sequence returned (R256). -/
  result    : Option SeqResult
  /-- The model's own: the timeout operand of the EXEC being issued (log 7). -/
  opTimeout : Word
  /-- The model's own: the events to come, first one next (log 1). -/
  sched     : List Event
  deriving DecidableEq, Repr

/-- RXLEN (R26). -/
def State.rxlen (s : State) : BitVec 17 := BitVec.ofNat 17 s.rxbuf.length

/-- EXLEN (R29). -/
def State.exlen (s : State) : Half := BitVec.ofNat 16 s.extra.length

/-- The parameters of the reset state: the spec's defaults where it has one, constants without a body
where no document gives a value (log 6). -/
def Config.atReset : Config :=
  { chkStrict := false
    statusTable := defaultStatusTable
    tickPeriod := Config.freeTickPeriod
    nofingerDelay := Config.freeNofingerDelay
    liftDelay := Config.freeLiftDelay
    dbRangeLow := Config.freeDbRangeLow
    dbRangeHigh := Config.freeDbRangeHigh
    verifyTimeout := Config.freeVerifyTimeout
    candidates := Config.freeCandidates
    readTimeout := Config.freeReadTimeout
    sessionAddr := Config.freeSessionAddr
    sessionPwd := Config.freeSessionPwd }

/-- The model's initial state for given parameters and RXQ (R33, R321). -/
def State.initial (cfg : Config) (rxq : List Byte) : State :=
  { cfg := cfg
    eng := .closed
    addr := none
    pwd := none
    rxbuf := []
    tmo := 0
    timer := 0
    res := .none
    mreason := .none
    stRaw := 0
    st := none
    extra := []
    rxAddr := 0
    rxKind := 0
    rxLen := 0
    rxCsum := 0
    calcCsum := 0
    csumOk := false
    rxq := rxq
    txlog := []
    tcfg := none
    parked := []
    reply := .none
    lastCmd := none
    seq := none
    result := none
    opTimeout := 0
    sched := [] }

/-- The machine right after reset (R33, R320, R321; log 2 for RXQ, log 6 for the parameters). -/
def State.reset : State := State.initial Config.atReset []

end Sys2Proof.Machine
end

