-- ==== Sys2Proof/Machine/Flags.lean ====
section
/-! DEFINITION. The checksum-16 function and the flags (spec 40_codec_encode.md R130, 10_state.md
R31). -/

namespace Sys2Proof.Machine

open Sys2Proof

/-- One addition of CSUM16: 16 bits, the byte taken as 0..255, the carry discarded (R130). -/
def csumAdd (acc : Half) (b : Byte) : Half := acc + b.setWidth 16

/-- CSUM16 (R130). -/
def CSUM16 (s : List Byte) : Half := s.foldl csumAdd 0

/-- The checksum of a frame: kind, both length bytes and the payload, each byte one addend (R96). -/
def frameCsum (kind : Byte) (len : Half) (payload : List Byte) : Half :=
  CSUM16 ([kind] ++ be16 len ++ payload)

/-- BUSY = 1 exactly when ENG = WAIT (R31). -/
def State.busy (s : State) : Bool := decide (s.eng = .wait)

/-- DONE = 1 exactly when RES is not NONE (R31). -/
def State.doneFlag (s : State) : Bool := decide (s.res ≠ .none)

/-- The number a one-bit flag reads as. -/
def flagValue (b : Bool) : Nat := if b then 1 else 0

end Sys2Proof.Machine
end

