-- ==== Sys2Proof/Machine/Operands.lean ====
section
/-! DEFINITION. Operand forms: reading the receive buffer (spec 20_memory.md R66, 00_scope.md R14),
the payload formats of R99, the packet kind codes (R93) and the size of a transport read (R64). -/

namespace Sys2Proof.Machine

open Sys2Proof

/-- The byte at an index. DECODE reads only indices below the length (R160). -/
def byteAt (b : Memory) (i : Nat) : Byte := b.getD i 0

/-- `u16(s, i)` (R13). -/
def u16At (b : Memory) (i : Nat) : Half := u16 (byteAt b i) (byteAt b (i + 1))

/-- `u32(s, i)` (R13). -/
def u32At (b : Memory) (i : Nat) : Word :=
  u32 (byteAt b i) (byteAt b (i + 1)) (byteAt b (i + 2)) (byteAt b (i + 3))

/-- `s[i:j)` (R13). -/
def slice (b : Memory) (i j : Nat) : List Byte := (b.drop i).take (j - i)

/-- `MemRead(off, n)`: n bytes as one big-endian number, n in 1, 2, 4, defined only when
off + n <= RXLEN (R14). -/
def memRead (b : Memory) (off n : Nat) : Option Nat :=
  if (n = 1 ∨ n = 2 ∨ n = 4) ∧ off + n ≤ b.length then some (bytesWord (slice b off (off + n)))
  else none

/-- `Append(s)`: bytes go to the end while there is room, the others are dropped (R66). -/
def append (b : Memory) (s : List Byte) : Memory := b ++ s.take (RX_CAP - b.length)

/-- The code of an enumerated packet kind (R93). -/
def kindCode : Kind → Byte
  | .command => 0x01
  | .data => 0x02
  | .ack => 0x07
  | .endOfData => 0x08

/-- The class of a received kind byte (R159). -/
def kindClass (b : Byte) : KindClass :=
  if b = 0x01 then .known .command
  else if b = 0x02 then .known .data
  else if b = 0x07 then .known .ack
  else if b = 0x08 then .known .endOfData
  else .reserved

/-- Format CMD0 (R99). -/
def fmtCmd0 (op : Byte) : List Byte := [op]

/-- Format CMD_S (R99). -/
def fmtCmdS (op slot : Byte) : List Byte := [op, slot]

/-- Format CMD_SL (R99). -/
def fmtCmdSL (op slot : Byte) (location : Half) : List Byte := [op, slot] ++ be16 location

/-- Format CMD_P (R99). -/
def fmtCmdP (op : Byte) (password : Word) : List Byte := [op] ++ be32 password

/-- Format CMD_LN (R99). -/
def fmtCmdLN (op : Byte) (location count : Half) : List Byte := [op] ++ be16 location ++ be16 count

/-- Format CMD_SRR (R99). -/
def fmtCmdSRR (op slot : Byte) (low high : Half) : List Byte := [op, slot] ++ be16 low ++ be16 high

/-- How many bytes a read returns when `k` is asked of a queue of `n > 0` bytes: any number from 1 to
n is some `k` (R64; log 17). -/
def readCount (k n : Nat) : Nat := min (max k 1) n

end Sys2Proof.Machine
end

