-- ==== Sys2Proof/Machine/Ops.lean ====
section
/-! DEFINITION. The shared operations: ENCODE, DECODE, the transport calls, a refusal, the end of a
transaction (this block's "taking an exception", spec 60_exceptions.md R292), the EXEC operation and
the register reads. There is no return operation (R294). -/

namespace Sys2Proof.Machine

open Sys2Proof

/-- The answer of a step. -/
abbrev Result := Host.Outcome State Fault Refusal

/-! ## Codec -/

/-- The frame of an address, a kind and a payload (R90, R133). -/
def frameBytes (a : Word) (k : Kind) (p : List Byte) : List Byte :=
  [0xEF, 0x01] ++ be32 a ++ [kindCode k] ++ be16 (BitVec.ofNat 16 (p.length + 2)) ++ p
    ++ be16 (frameCsum (kindCode k) (BitVec.ofNat 16 (p.length + 2)) p)

/-- ENCODE (R133, R135). `none` is the refusal BadPayloadLength, its only one. -/
def ENCODE (a : Word) (k : Kind) (p : List Byte) : Option (List Byte) :=
  if p.length > MAX_PAYLOAD then none else some (frameBytes a k p)

/-- The fields of a complete frame at index 0 with declared length `len` (R155, R157). -/
def extractFrame (b : Memory) (len : Half) : Frame :=
  let payload := slice b HDR_LEN (HDR_LEN + len.toNat - 2)
  let received := u16At b (HDR_LEN + len.toNat - 2)
  let computed := CSUM16 ([byteAt b 6, byteAt b 7, byteAt b 8] ++ payload)
  { addr := u32At b 2
    kind := byteAt b 6
    len := len
    payload := payload
    rxCsum := received
    calcCsum := computed
    csumOk := decide (computed = received) }

/-- DECODE, its tests in the order of R150. -/
def DECODE (strict : Bool) (b : Memory) : Verdict :=
  if b.length < MIN_DECODE then .needMoreData
  else if byteAt b 0 ≠ 0xEF ∨ byteAt b 1 ≠ 0x01 then .malformed .badMarker
  else if (u16At b 7).toNat < 2 then .malformed .badLength
  else if b.length < HDR_LEN + (u16At b 7).toNat then .needMoreData
  else if strict = true ∧ (extractFrame b (u16At b 7)).csumOk = false then .malformed .badChecksum
  else .frame (extractFrame b (u16At b 7))

/-! ## Transport calls -/

/-- `TP.write(s)` (R63). -/
def tpWrite (bytes : List Byte) (s : State) : State := { s with txlog := s.txlog ++ bytes }

/-- `TP.flush()` (R65). -/
def tpFlush (s : State) : State := { s with rxq := [] }

/-- `TP.read()` of `n` bytes: what it leaves in RXQ (R64). -/
def tpDropRead (n : Nat) (s : State) : State := { s with rxq := s.rxq.drop n }

/-! ## Registers -/

/-- The result registers, the frame-field registers and CSUM_OK cleared (R181, R184). -/
def clearResults (s : State) : State :=
  { s with
    res := .none, mreason := .none, stRaw := 0, st := none, extra := [],
    rxAddr := 0, rxKind := 0, rxLen := 0, rxCsum := 0, calcCsum := 0, csumOk := false }

/-- An operation HOST issued is refused: nothing of the block changes (R11, R283). -/
def refuse (r : OpRefusal) (s : State) : State := { s with reply := .refused r }

/-- `End(o, r)` (R191). -/
def endTransaction (o : Res) (r : MReason) (s : State) : State :=
  { s with res := o, mreason := r, eng := .idle }

/-! ## EXEC -/

/-- HOST presents the timeout operand of the EXEC it issues (log 7). -/
def withTimeout (timeout : Word) (s : State) : State := { s with opTimeout := timeout }

/-- The accepted step of EXEC, in the order of R184: flush, RXLEN, results, write, TMO, TIMER, ENG.
HOST keeps which command it sent. -/
def transmit (cmd : Option Instr) (payload : List Byte) (a : Word) (s : State) : State :=
  let s1 := clearResults { tpFlush s with rxbuf := [] }
  let s2 := tpWrite (frameBytes a .command payload) s1
  { s2 with tmo := s.opTimeout, timer := 0, eng := .wait, reply := .accepted, lastCmd := cmd }

/-- EXEC(payload, timeout) with the timeout operand in `opTimeout`, its tests in the order of R183. -/
def execPayload (cmd : Option Instr) (payload : List Byte) (s : State) : Result :=
  match s.eng with
  | .closed => .next (refuse .notOpen s)
  | .wait => .next (refuse .busy s)
  | .idle =>
    if payload.length < 1 ∨ payload.length > MAX_PAYLOAD then .next (refuse .badPayloadLength s)
    else
      match s.addr with
      | some a => .next (transmit cmd payload a s)
      | none => .fault .addrNoValue

/-! ## Register reads -/

/-- The value of a register that may hold none. -/
def optBits (width : Nat) : Option Word → RegValue
  | some v => .bits width v.toNat
  | none => .absent

/-- The value of a register (R20). -/
def regValue (s : State) : Reg → RegValue
  | .addr => optBits 32 s.addr
  | .pwd => optBits 32 s.pwd
  | .eng => .bits 2 s.eng.code.toNat
  | .tmo => .bits 32 s.tmo.toNat
  | .timer => .bits 32 s.timer.toNat
  | .res => .bits 2 s.res.code.toNat
  | .mreason => .bits 3 s.mreason.code.toNat
  | .stRaw => .bits 8 s.stRaw.toNat
  | .st =>
    match s.st with
    | some n => .status n
    | none => .absent
  | .extra => .bytes s.extra
  | .exlen => .bits 16 s.exlen.toNat
  | .rxAddr => .bits 32 s.rxAddr.toNat
  | .rxKind => .bits 8 s.rxKind.toNat
  | .rxLen => .bits 16 s.rxLen.toNat
  | .rxCsum => .bits 16 s.rxCsum.toNat
  | .calcCsum => .bits 16 s.calcCsum.toNat
  | .csumOk => .bits 1 (flagValue s.csumOk)
  | .busy => .bits 1 (flagValue s.busy)
  | .done => .bits 1 (flagValue s.doneFlag)

/-- ENG, BUSY and DONE are readable in every state (R32). -/
def alwaysReadable : Reg → Bool
  | .eng => true
  | .busy => true
  | .done => true
  | _ => false

/-- HOST reads a register: refused NotOpen in CLOSED but for ENG, BUSY, DONE; no side effect (R32,
R192). -/
def readReg (r : Reg) (s : State) : State :=
  if s.eng = .closed ∧ alwaysReadable r = false then refuse .notOpen s
  else { s with reply := .value (regValue s r) }

end Sys2Proof.Machine
end

