-- ==== Sys2Proof/Machine/Engine.lean ====
section
/-! DEFINITION. The steps of ENGINE, CLOCK and DEVICE and the reset event (spec 42_engine_execute.md
R185 to R191, 70_reset_and_hazards.md R320, R321). -/

namespace Sys2Proof.Machine

open Sys2Proof

/-- A frame was decoded: the frame-field registers, then the status and extras, or EMPTY_PAYLOAD
(R186, R187). -/
def acceptFrame (f : Frame) (s : State) : State :=
  let s1 :=
    { s with
      rxAddr := f.addr, rxKind := f.kind, rxLen := f.len,
      rxCsum := f.rxCsum, calcCsum := f.calcCsum, csumOk := f.csumOk }
  match f.payload with
  | [] => endTransaction .malformed .emptyPayload s1
  | b :: rest =>
    endTransaction .response .none
      { s1 with stRaw := b, st := some (statusName s.cfg.statusTable b), extra := rest }

/-- What the verdict on RXBUF does (R185, R186, R188). -/
def settleVerdict (v : Verdict) (s : State) : State :=
  match v with
  | .needMoreData => s
  | .malformed d => endTransaction .malformed d.reason s
  | .frame f => acceptFrame f s

/-- Bytes read from the transport are appended and the whole buffer is decoded (R185). -/
def receive (bytes : List Byte) (s : State) : State :=
  let s1 := { s with rxbuf := append s.rxbuf bytes }
  settleVerdict (DECODE s.cfg.chkStrict s1.rxbuf) s1

/-- The RX step is enabled exactly when ENG = WAIT and RXQ is not empty (R185). -/
def rxEnabled (s : State) : Bool := decide (s.eng = .wait ∧ s.rxq ≠ [])

/-- The RX step whose read asks for `k` bytes (R185); nothing where it is not enabled. -/
def rxStep (k : Nat) (s : State) : State :=
  if rxEnabled s = true then
    receive (s.rxq.take (readCount k s.rxq.length)) (tpDropRead (readCount k s.rxq.length) s)
  else s

/-- TICK in the block: TIMER counts in WAIT only and the test TIMER >= TMO is made here (R189). -/
def tickBlock (s : State) : State :=
  match s.eng with
  | .closed => s
  | .idle => s
  | .wait =>
    let s1 := { s with timer := s.timer + 1 }
    if s1.tmo ≤ s1.timer then endTransaction .timedOut .none s1 else s1

/-- DEVICE appends bytes to RXQ (R23). -/
def deviceSends (bytes : List Byte) (s : State) : State := { s with rxq := s.rxq ++ bytes }

/-- The reset event (R320): the block's registers as the "after reset" column of R33; parameters,
RXQ and TXLOG untouched (R321); HOST is not reset (log 9). -/
def resetBlock (s : State) : State :=
  let s1 := clearResults s
  { s1 with eng := .closed, addr := none, pwd := none, rxbuf := [], tmo := 0, timer := 0 }

end Sys2Proof.Machine
end

