-- ==== Sys2Proof/Machine/Commands.lean ====
section
/-! DEFINITION. The meanings of the nine commands: each builds its own payload and is EXEC of it
(spec 43_commands.md R220 to R229). -/

namespace Sys2Proof.Machine

open Sys2Proof

/-- capture-image() (R222). -/
def execCaptureImage (s : State) : Result :=
  execPayload (some .captureImage) (fmtCmd0 0x01) s

/-- image-to-template(slot) (R223). -/
def execImageToTemplate (slot : Byte) (s : State) : Result :=
  execPayload (some (.imageToTemplate slot)) (fmtCmdS 0x02 slot) s

/-- search(slot, range-low, range-high) (R226). -/
def execSearch (slot : Byte) (low high : Half) (s : State) : Result :=
  execPayload (some (.search slot low high)) (fmtCmdSRR 0x04 slot low high) s

/-- register-model() (R224). -/
def execRegisterModel (s : State) : Result :=
  execPayload (some .registerModel) (fmtCmd0 0x05) s

/-- store-model(slot, location): slot before location on the wire (R225). -/
def execStoreModel (slot : Byte) (location : Half) (s : State) : Result :=
  execPayload (some (.storeModel slot location)) (fmtCmdSL 0x06 slot location) s

/-- delete-model(location, count) (R227). -/
def execDeleteModel (location count : Half) (s : State) : Result :=
  execPayload (some (.deleteModel location count)) (fmtCmdLN 0x0C location count) s

/-- empty-database() (R228). -/
def execEmptyDatabase (s : State) : Result :=
  execPayload (some .emptyDatabase) (fmtCmd0 0x0D) s

/-- verify-password(password) (R221). -/
def execVerifyPassword (password : Word) (s : State) : Result :=
  execPayload (some (.verifyPassword password)) (fmtCmdP 0x13 password) s

/-- template-count() (R229). -/
def execTemplateCount (s : State) : Result :=
  execPayload (some .templateCount) (fmtCmd0 0x1D) s

/-- EXEC of a payload outside the nine formats, sent as given (R102, R199; log 14). -/
def execRaw (payload : List Byte) (s : State) : Result :=
  execPayload none payload s

end Sys2Proof.Machine
end

