-- ==== Sys2Proof/Machine/Dispatch.lean ====
section
/-! DEFINITION. One arm per command. -/

namespace Sys2Proof.Machine

open Sys2Proof

def exec (i : Instr) (s : State) : Host.Outcome State Fault Refusal :=
  match i with
  | .captureImage => Sys2Proof.Machine.execCaptureImage s
  | .imageToTemplate slot => Sys2Proof.Machine.execImageToTemplate slot s
  | .search slot low high => Sys2Proof.Machine.execSearch slot low high s
  | .registerModel => Sys2Proof.Machine.execRegisterModel s
  | .storeModel slot location => Sys2Proof.Machine.execStoreModel slot location s
  | .deleteModel location count => Sys2Proof.Machine.execDeleteModel location count s
  | .emptyDatabase => Sys2Proof.Machine.execEmptyDatabase s
  | .verifyPassword password => Sys2Proof.Machine.execVerifyPassword password s
  | .templateCount => Sys2Proof.Machine.execTemplateCount s

end Sys2Proof.Machine
end

