-- ==== Sys2Proof/Machine/Response.lean ====
section
/-! DEFINITION. How HOST reads the end of a command (spec 43_commands.md R220 to R229, R230): one
definition per command. The layouts of the extras are PRESUMED (log 11). -/

namespace Sys2Proof.Machine

open Sys2Proof

/-- `ok(r)`: RES = RESPONSE and ST = Ok (44_host_sequences.md). -/
def okOutcome (s : State) : Bool := decide (s.res = .response ∧ s.st = some .ok)

/-- `cause(r)` (44_host_sequences.md, R248). -/
def causeOf (s : State) : Cause :=
  match s.res, s.st with
  | .response, some n => .status n
  | .timedOut, _ => .timedOut
  | .malformed, _ => .malformed
  | _, _ => .noOutcome

/-- A command without a layout: Ok is success, every other end a failure (R220d). -/
def readPlain (s : State) : Reading :=
  if okOutcome s = true then .success else .failure (causeOf s)

/-- capture-image: NoFingerDetected is the expected "no finger yet" (R222). -/
def readCaptureImage (s : State) : Reading :=
  if s.res = .response ∧ s.st = some .noFingerDetected then .noFingerYet else readPlain s

/-- image-to-template (R223). -/
def readImageToTemplate (s : State) : Reading := readPlain s

/-- The match id and confidence of a search's extras, none where fewer than four bytes came (R226,
R246). -/
def matchFields (extra : List Byte) : Option (Half × Half) :=
  if 4 ≤ extra.length then some (u16At extra 0, u16At extra 2) else none

/-- search (R226): a status other than Ok is "no match", not a failure. -/
def readSearch (s : State) : Reading :=
  match s.res, s.st with
  | .response, some .ok =>
    match matchFields s.extra with
    | some m => .matched m.1 m.2
    | none => .shortExtras
  | .response, some n => .noMatch n
  | _, _ => .failure (causeOf s)

/-- register-model (R224). -/
def readRegisterModel (s : State) : Reading := readPlain s

/-- store-model (R225). -/
def readStoreModel (s : State) : Reading := readPlain s

/-- delete-model (R227). -/
def readDeleteModel (s : State) : Reading := readPlain s

/-- empty-database (R228). -/
def readEmptyDatabase (s : State) : Reading := readPlain s

/-- verify-password: any end other than Ok is failure (R221). -/
def readVerifyPassword (s : State) : Reading := readPlain s

/-- template-count: the count is the first two extra bytes (R229). -/
def readTemplateCount (s : State) : Reading :=
  if okOutcome s = true then
    if 2 ≤ s.extra.length then .count (u16At s.extra 0) else .shortExtras
  else .failure (causeOf s)

/-- The reading of an ended transaction by the command that was sent; a raw payload has no layout
(R199, R220). -/
def readingOf (cmd : Option Instr) (s : State) : Reading :=
  match cmd with
  | none => readPlain s
  | some .captureImage => readCaptureImage s
  | some (.imageToTemplate _) => readImageToTemplate s
  | some (.search _ _ _) => readSearch s
  | some .registerModel => readRegisterModel s
  | some (.storeModel _ _) => readStoreModel s
  | some (.deleteModel _ _) => readDeleteModel s
  | some .emptyDatabase => readEmptyDatabase s
  | some (.verifyPassword _) => readVerifyPassword s
  | some .templateCount => readTemplateCount s

/-- HOST reads DONE and, when it is 1, the result as the command's rule says; a result register is not
readable in CLOSED (R32, R192). The model's choice (log 5): the reading is one operation of HOST, and in
CLOSED all of it is refused NotOpen, also with DONE = 0, where DONE alone would be read. -/
def readOutcomeOp (s : State) : State :=
  if s.eng = .closed then refuse .notOpen s
  else if s.doneFlag = false then { s with reply := .reading .pending }
  else { s with reply := .reading (readingOf s.lastCmd s) }

end Sys2Proof.Machine
end

