-- ==== Sys2Proof/Machine/Session.lean ====
section
/-! DEFINITION. The session operations OPEN and CLOSE (spec 42_engine_execute.md R181, R182) and the
attachment to a transport (44_host_sequences.md R252, 70_reset_and_hazards.md R323). -/

namespace Sys2Proof.Machine

open Sys2Proof

/-- The effect of an accepted OPEN (R181): no transport I/O. -/
def openEffect (address password : Word) (s : State) : State :=
  let s1 := clearResults s
  { s1 with
    addr := some address, pwd := some password, rxbuf := [], tmo := 0, timer := 0,
    eng := .idle, reply := .accepted }

/-- OPEN(address, password) (R181). -/
def openOp (address password : Word) (s : State) : State :=
  match s.eng with
  | .closed => openEffect address password s
  | .idle => refuse .alreadyOpen s
  | .wait => refuse .alreadyOpen s

/-- CLOSE() (R182). -/
def closeOp (s : State) : State :=
  match s.eng with
  | .closed => refuse .notOpen s
  | .wait => refuse .busy s
  | .idle => { s with addr := none, pwd := none, eng := .closed, reply := .accepted }

/-- The block is attached to a newly constructed transport with its own empty RXQ and TXLOG; the one it
had is kept with its history (R252; log 3). -/
def attachTransport (c : TransportConfig) (s : State) : State :=
  { s with
    parked := s.parked ++ [{ tcfg := s.tcfg, rxq := s.rxq, txlog := s.txlog }],
    tcfg := some c, rxq := [], txlog := [] }

/-- HOST attaches the block to a transport, between sessions only (log 3). -/
def attachOp (c : TransportConfig) (s : State) : State :=
  match s.eng with
  | .closed => { attachTransport c s with reply := .accepted }
  | .idle => refuse .alreadyOpen s
  | .wait => refuse .alreadyOpen s

end Sys2Proof.Machine
end

