-- ==== Sys2Proof/Machine/HostSeq.lean ====
section
/-! DEFINITION. The host sequences (spec 44_host_sequences.md R240 to R256): HOST's position in a
sequence, the command it issues there, and what it does with each outcome. -/

namespace Sys2Proof.Machine

open Sys2Proof

/-! ## Positions -/

/-- Where a requested sequence begins. -/
def Request.task (cfg : Config) : Request → Task
  | .verifyPassword t => .verifyPassword t
  | .captureWithRetry t => .captureWithRetry t
  | .identify t => .identify t .capture
  | .enroll loc t => .enroll loc t .captureFirst
  | .discover => .discover cfg.candidates

/-- What HOST does first in a requested sequence. -/
def Request.firstActivity : Request → Activity
  | .discover => .attach
  | .verifyPassword _ => .issue
  | .captureWithRetry _ => .issue
  | .identify _ => .issue
  | .enroll _ _ => .issue

/-- HOST goes on at a position; a capture-with-retry begins with ATT = 0 (R242). -/
def goto (task : Task) (act : Activity) (s : State) : State :=
  { s with seq := some { task := task, act := act, att := 0 } }

/-- The sequence returns to its caller and its local state is discarded (R240). -/
def finish (r : SeqResult) (s : State) : State := { s with seq := none, result := some r }

/-- A wait of so many ticks, none at all for 0 (R244, R249). -/
def waitThenIssue (ticks : Nat) : Activity := if ticks = 0 then .issue else .delay ticks

/-- The timeout a sequence passes unchanged to every EXEC it issues (R254, R252). -/
def Task.timeout (cfg : Config) : Task → Word
  | .verifyPassword t => t
  | .captureWithRetry t => t
  | .identify t _ => t
  | .enroll _ t _ => t
  | .discover _ => cfg.verifyTimeout

/-- Whether the position is inside a capture-with-retry. -/
def Task.isCapture : Task → Bool
  | .verifyPassword _ => false
  | .captureWithRetry _ => true
  | .identify _ .capture => true
  | .identify _ .convert => false
  | .identify _ .search => false
  | .enroll _ _ .captureFirst => true
  | .enroll _ _ .convertFirst => false
  | .enroll _ _ .captureSecond => true
  | .enroll _ _ .convertSecond => false
  | .enroll _ _ .register => false
  | .enroll _ _ .store => false
  | .discover _ => false

/-- The command of an enroll phase (R247). -/
def EnrollPhase.command (location : Half) : EnrollPhase → Instr
  | .captureFirst => .captureImage
  | .convertFirst => .imageToTemplate 1
  | .captureSecond => .captureImage
  | .convertSecond => .imageToTemplate 2
  | .register => .registerModel
  | .store => .storeModel 1 location

/-- The command of an identify position (R245, R116). -/
def IdentifyPhase.command (cfg : Config) : IdentifyPhase → Instr
  | .capture => .captureImage
  | .convert => .imageToTemplate 1
  | .search => .search 1 cfg.dbRangeLow cfg.dbRangeHigh

/-- The command HOST issues at a position; verify-password carries PWD, so there is none while PWD
holds no value (R241, R21). -/
def Task.command (cfg : Config) (pwd : Option Word) : Task → Option Instr
  | .verifyPassword _ => pwd.map Instr.verifyPassword
  | .captureWithRetry _ => some .captureImage
  | .identify _ p => some (p.command cfg)
  | .enroll loc _ p => some (p.command loc)
  | .discover _ => pwd.map Instr.verifyPassword

/-! ## Capture with retry -/

/-- What the outcome of a capture-image makes of capture-with-retry (R242, R243). -/
inductive CaptureStep where
  | captured
  | retry
  | captureTimeout
  | failed (c : Cause)
  deriving DecidableEq, Repr

/-- The decision of capture-with-retry after the attempt number `att` (R242). -/
def captureStep (att : Nat) (s : State) : CaptureStep :=
  if okOutcome s = true then .captured
  else if s.res = .response ∧ s.st = some .noFingerDetected then
    if att = RETRY_CEILING then .captureTimeout else .retry
  else .failed (causeOf s)

/-- A retry: NOFINGER_DELAY ticks, then the next attempt, ATT kept (R242, R244). -/
def retryCapture (q : Sequence) (s : State) : State :=
  { s with seq := some { q with act := waitThenIssue s.cfg.nofingerDelay } }

/-! ## What HOST does when a command of a sequence has ended -/

/-- After verify_password's command (R241). -/
def endVerify (s : State) : State :=
  if okOutcome s = true then finish .authenticated s else finish .authFailed s

/-- After an attempt of a capture-with-retry run alone (R242). -/
def endCapture (q : Sequence) (s : State) : State :=
  match captureStep q.att s with
  | .captured => finish .captured s
  | .retry => retryCapture q s
  | .captureTimeout => finish .captureTimeout s
  | .failed c => finish (.failed c) s

/-- What identify returns after its search (R245, R246). -/
def searchResult (s : State) : SeqResult :=
  match readSearch s with
  | .matched id conf => .matched id conf
  | .noMatch _ => .notFound
  | _ => .protocolError

/-- After a command of identify (R245). -/
def endIdentify (t : Word) (p : IdentifyPhase) (q : Sequence) (s : State) : State :=
  match p with
  | .capture =>
    match captureStep q.att s with
    | .captured => goto (.identify t .convert) .issue s
    | .retry => retryCapture q s
    | .captureTimeout => finish .captureTimeout s
    | .failed _ => finish .protocolError s
  | .convert =>
    if okOutcome s = true then goto (.identify t .search) .issue s else finish .protocolError s
  | .search => finish (searchResult s) s

/-- After an attempt of an enroll capture: on success HOST goes on to the convert (R247). -/
def endEnrollCapture (loc : Half) (t : Word) (p next : EnrollPhase) (q : Sequence) (s : State) :
    State :=
  match captureStep q.att s with
  | .captured => goto (.enroll loc t next) .issue s
  | .retry => retryCapture q s
  | .captureTimeout => finish .captureTimeout s
  | .failed c => finish (.phaseFailed p c) s

/-- After a command of enroll that is no capture: on success HOST goes on, after the given activity
(R247). -/
def endEnrollStep (loc : Half) (t : Word) (p next : EnrollPhase) (act : Activity) (s : State) :
    State :=
  if okOutcome s = true then goto (.enroll loc t next) act s
  else finish (.phaseFailed p (causeOf s)) s

/-- After a command of enroll (R247, R248, R249). -/
def endEnroll (loc : Half) (t : Word) (p : EnrollPhase) (q : Sequence) (s : State) : State :=
  match p with
  | .captureFirst => endEnrollCapture loc t .captureFirst .convertFirst q s
  | .convertFirst =>
    endEnrollStep loc t .convertFirst .captureSecond (waitThenIssue s.cfg.liftDelay) s
  | .captureSecond => endEnrollCapture loc t .captureSecond .convertSecond q s
  | .convertSecond => endEnrollStep loc t .convertSecond .register .issue s
  | .register => endEnrollStep loc t .register .store .issue s
  | .store =>
    if okOutcome s = true then finish (.stored loc) s
    else finish (.phaseFailed .store (causeOf s)) s

/-- After discovery's verify_password: the session is returned open, or closed before the next
candidate (R252). -/
def endDiscover (left : List Candidate) (s : State) : State :=
  if okOutcome s = true then finish .session s else goto (.discover left) .close s

/-- HOST reads the outcome of the sequence's command and goes on (R240). -/
def advance (q : Sequence) (s : State) : State :=
  match q.task with
  | .verifyPassword _ => endVerify s
  | .captureWithRetry _ => endCapture q s
  | .identify t p => endIdentify t p q s
  | .enroll loc t p => endEnroll loc t p q s
  | .discover left => endDiscover left s

/-! ## HOST's turns -/

/-- The sequence after its EXEC was accepted: HOST waits for DONE, and a capture attempt is counted
(R242). -/
def Sequence.issued (q : Sequence) : Sequence :=
  { q with act := .await, att := if q.task.isCapture = true then q.att + 1 else q.att }

/-- After the EXEC of a sequence: awaited when it was accepted; a refused one leaves the position
(log 8). -/
def afterIssue (q : Sequence) (s : State) : State :=
  if s.eng = .wait then { s with seq := some q.issued } else s

/-- HOST issues the command of its position, and never while ENG = WAIT (R240). -/
def issueTurn (q : Sequence) (s : State) : Result :=
  if s.eng = .wait then .next s
  else
    match q.task.command s.cfg s.pwd with
    | none => .next (refuse .notOpen s)
    | some i =>
      match exec i (withTimeout (q.task.timeout s.cfg) s) with
      | .next s' => .next (afterIssue q s')
      | .fault r => .fault r
      | .refused r => .refused r

/-- HOST reads DONE, which is readable in every state, and once it is 1 the outcome (R192). In CLOSED
the result registers are unreadable, so that read is refused NotOpen (10_state.md R32, R182); that the
sequence then keeps its position is the model's choice (log 8). -/
def awaitTurn (q : Sequence) (s : State) : State :=
  if s.doneFlag = false then s
  else if s.eng = .closed then refuse .notOpen s
  else advance q s

/-- The transport of a candidate (R252). -/
def candidateTransport (cfg : Config) (c : Candidate) : TransportConfig :=
  { txPin := c.txPin, rxPin := c.rxPin, baud := c.baud, readTimeout := cfg.readTimeout }

/-- discover: attach and OPEN for the next candidate, or NoDeviceFound (R252, R253). The model's choice
(log 8): in a session that another operation opened meanwhile, the attachment of a next candidate is
refused AlreadyOpen, and with no candidate left NoDeviceFound is returned and that session stays open. -/
def attachTurn (q : Sequence) (s : State) : State :=
  match q.task with
  | .discover [] => finish .noDeviceFound s
  | .discover (c :: left) =>
    match s.eng with
    | .closed =>
      goto (.discover left) .issue
        (openOp s.cfg.sessionAddr s.cfg.sessionPwd
          (attachTransport (candidateTransport s.cfg c) s))
    | .idle => refuse .alreadyOpen s
    | .wait => refuse .alreadyOpen s
  | _ => s

/-- discover: CLOSE, then the next candidate (R252). -/
def closeTurn (q : Sequence) (s : State) : State :=
  match s.eng with
  | .idle => goto q.task .attach (closeOp s)
  | .closed => closeOp s
  | .wait => closeOp s

/-- HOST takes the next step of the running sequence; without one it does nothing (R240). -/
def hostTurn (s : State) : Result :=
  match s.seq with
  | none => .next s
  | some q =>
    match q.act with
    | .attach => .next (attachTurn q s)
    | .issue => issueTurn q s
    | .await => .next (awaitTurn q s)
    | .delay _ => .next s
    | .close => .next (closeTurn q s)

/-- Why a sequence cannot start now: a session sequence needs an open session and no transaction in
progress, discover a closed block (log 8). -/
def startRefusal (r : Request) (e : Eng) : Option OpRefusal :=
  match r, e with
  | .discover, .closed => none
  | .discover, .idle => some .alreadyOpen
  | .discover, .wait => some .alreadyOpen
  | _, .closed => some .notOpen
  | _, .wait => some .busy
  | _, .idle => none

/-- The sequence is at its beginning; the result of an earlier one is dropped (R240). -/
def beginSequence (r : Request) (s : State) : State :=
  { s with
    seq := some { task := r.task s.cfg, act := r.firstActivity, att := 0 },
    result := none, reply := .accepted }

/-- HOST starts a sequence; a second one beside a running one has no meaning (R76, U17). -/
def startOp (r : Request) (s : State) : Result :=
  match s.seq with
  | some _ => .refused .interleavedSequences
  | none =>
    match startRefusal r s.eng with
    | some x => .next (refuse x s)
    | none => .next (beginSequence r s)

/-- HOST abandons the running sequence, between commands only; nothing is returned (R251). The model's
choice (log 8): any running sequence can be cancelled, discover too and also in CLOSED between its
candidates, the refusal in WAIT has the name Busy, and without a running sequence it is accepted. -/
def cancelOp (s : State) : State :=
  if s.eng = .wait then refuse .busy s else { s with seq := none, reply := .accepted }

/-- A tick counts down HOST's delay (R303, 10_state.md R36c). -/
def Sequence.tick (q : Sequence) : Sequence :=
  match q.act with
  | .delay n => { q with act := waitThenIssue (n - 1) }
  | .attach => q
  | .issue => q
  | .await => q
  | .close => q

/-- A tick at HOST. -/
def tickHost (s : State) : State := { s with seq := s.seq.map Sequence.tick }

end Sys2Proof.Machine
end

