-- ==== Sys2Proof/Machine/Events.lean ====
section
/-! DEFINITION. What each event does (spec 00_scope.md R10), how EXEC's payload becomes a command, and
how a command is put where the next step takes it. -/

namespace Sys2Proof.Machine

open Sys2Proof

/-- HOST issues EXEC(payload, timeout): a payload that spells one of the nine commands is that command,
any other is sent as given (R199). -/
def execOp (payload : List Byte) (timeout : Word) (s : State) : Result :=
  match decode payload with
  | .instr i => exec i (withTimeout timeout s)
  | .reject _ => execRaw payload (withTimeout timeout s)

/-- HOST evaluates ENCODE alone (R133, R283). -/
def encodeOp (a : Word) (k : Kind) (p : List Byte) (s : State) : State :=
  match ENCODE a k p with
  | some f => { s with reply := .encoded f }
  | none => refuse .badPayloadLength s

/-- An operation of HOST. -/
def hostOp (op : HostOp) (s : State) : Result :=
  match op with
  | .openSession a p => .next (openOp a p s)
  | .closeSession => .next (closeOp s)
  | .exec payload timeout => execOp payload timeout s
  | .read r => .next (readReg r s)
  | .readOutcome => .next (readOutcomeOp s)
  | .encodeFrame a k p => .next (encodeOp a k p s)
  | .decodeFrame b => .next { s with reply := .decoded (DECODE s.cfg.chkStrict b) }
  | .csum16 b => .next { s with reply := .csum (CSUM16 b) }
  | .attach c => .next (attachOp c s)
  | .start r => startOp r s
  | .turn => hostTurn s
  | .cancel => .next (cancelOp s)

/-- The order in which events of one cycle are taken: reset, a HOST operation, RX, TICK (R290). -/
def Cycle.events (c : Cycle) : List Event :=
  (if c.reset = true then [Event.reset] else [])
  ++ (match c.op with
      | some op => [Event.host op]
      | none => [])
  ++ (match c.rx with
      | some k => [Event.rx k]
      | none => [])
  ++ (if c.tick = true then [Event.tick] else [])

/-- The step of one agent. -/
def runEvent (e : Event) (s : State) : Result :=
  match e with
  | .host op => hostOp op s
  | .rx k => .next (rxStep k s)
  | .tick => .next (tickHost (tickBlock s))
  | .device b => .next (deviceSends b s)
  | .reset => .next (resetBlock s)
  | .sameCycle c => .next { s with sched := c.events ++ s.sched }

/-- The schedule after its first event was taken. -/
def withSched (rest : List Event) (s : State) : State := { s with sched := rest }

/-- The machine's step: the first event of the schedule; with none, no agent moves (log 1). -/
def stepEvent (s : State) : Result :=
  match s.sched with
  | [] => .next s
  | e :: rest => runEvent e (withSched rest s)

/-- A session must be open before a command (R323): HOST's OPEN with the instance's session parameters
where the block is CLOSED (log 12). -/
def openForCommand (s : State) : State :=
  match s.eng with
  | .closed => openEffect s.cfg.sessionAddr s.cfg.sessionPwd s
  | .idle => s
  | .wait => s

/-- The EXEC of a payload is HOST's next operation, with the timeout operand as it stands. -/
def placePayload (payload : List Byte) (s : State) : State :=
  let s1 := openForCommand s
  { s1 with sched := .host (.exec payload s1.opTimeout) :: s1.sched }

end Sys2Proof.Machine
end

