-- ==== Sys2Proof/Machine/Step.lean ====
section
/-! DEFINITION. The step of the machine, and placing a command where the next step takes it. -/

namespace Sys2Proof.Machine

open Sys2Proof

/-- One step of one agent (spec 00_scope.md R10). -/
def step (s : State) : Host.Outcome State Fault Refusal := stepEvent s

/-- The table word `w` of `nbits` bits as HOST's next EXEC (log 12). -/
def State.withFetchWord (s : State) (nbits w : Nat) : State :=
  placePayload (wordBytes (nbits / 8) w) s

end Sys2Proof.Machine
end

