-- ==== Sys2Proof/Safety.lean ====
section
/-! DEFINITION. What holds of a good state: the invariants of spec 10_state.md R38, what they rest on,
and the range of HOST's attempt counter (R36). -/

namespace Sys2Proof.Machine

open Sys2Proof

/-- A concatenation of frames each produced by ENCODE with kind KIND_COMMAND, of a payload EXEC accepts
(R38h). -/
def CommandLog (log : List Byte) : Prop :=
  ∃ sent : List (Word × List Byte),
    (∀ f ∈ sent, 1 ≤ f.2.length ∧ f.2.length ≤ MAX_PAYLOAD) ∧
    log = (sent.map (fun f => frameBytes f.1 .command f.2)).flatten

/-- The result registers, the frame-field registers and CSUM_OK hold their cleared values (R33). -/
structure State.ResultsClear (s : State) : Prop where
  res      : s.res = .none
  mreason  : s.mreason = .none
  stRaw    : s.stRaw = 0
  st       : s.st = none
  extra    : s.extra = []
  rxAddr   : s.rxAddr = 0
  rxKind   : s.rxKind = 0
  rxLen    : s.rxLen = 0
  rxCsum   : s.rxCsum = 0
  calcCsum : s.calcCsum = 0
  csumOk   : s.csumOk = false

/-- The invariants of the block (R38, R29, R26). -/
structure State.BlockInv (s : State) : Prop where
  /-- R38a. -/
  rxCap : Memory.wf s.rxbuf
  /-- R38b. -/
  waitClear : s.eng = .wait → s.ResultsClear
  /-- R38c. -/
  waitTimer : s.eng = .wait → s.timer.toNat < max s.tmo.toNat 1
  /-- R26: while a transaction waits, its buffer has no verdict yet. -/
  waitBuffer : s.eng = .wait → DECODE s.cfg.chkStrict s.rxbuf = .needMoreData
  /-- R38d. -/
  reason : s.res = .malformed ↔ s.mreason ≠ .none
  /-- R38e. -/
  responseLen : s.res = .response → 3 ≤ s.rxLen.toNat ∧ s.extra.length = s.rxLen.toNat - 3
  /-- R29. -/
  responseStatus : s.res = .response → s.st = some (statusName s.cfg.statusTable s.stRaw)
  /-- R29. -/
  noResponse : s.res ≠ .response → s.stRaw = 0 ∧ s.st = none ∧ s.extra = []
  /-- R38f. -/
  strict : s.res = .response → s.cfg.chkStrict = true → s.csumOk = true
  /-- R38g. -/
  closedAddr : s.eng = .closed ↔ s.addr = none
  /-- R38g. -/
  closedPwd : s.eng = .closed ↔ s.pwd = none
  /-- R38h. -/
  log : CommandLog s.txlog
  /-- R38h, for the transports used before. -/
  parkedLog : ∀ t ∈ s.parked, CommandLog t.txlog

/-- The range of ATT (R36a): never above the ceiling, below it whenever another attempt may follow. -/
def Sequence.AttInRange (q : Sequence) : Prop :=
  q.att ≤ RETRY_CEILING ∧ (q.act ≠ .await → q.att < RETRY_CEILING)

/-- The invariant of the machine. -/
structure State.Inv (s : State) : Prop where
  block : s.BlockInv
  att   : ∀ q, s.seq = some q → q.AttInRange

/-- A state the machine reaches from a start. -/
inductive Reaches (start : State) : State → Prop where
  | refl : Reaches start start
  | step {s t : State} (h : Reaches start s) (hs : step s = .next t) : Reaches start t

end Sys2Proof.Machine
end

