-- ==== Sys2Proof/Certificates/Slice0/Obligations.lean ====
section
/-! DEFINITION. The statements for the provers, from the numbered rules of spec/. The numbers and byte
sequences of `Claims` are written from the spec without the model's own helpers. -/

namespace Sys2Proof.Claims

open Sys2Proof Sys2Proof.Machine

/-- Two bytes, most significant first, of a number (R132). -/
def bytesOf2 (n : Nat) : List Byte := [BitVec.ofNat 8 (n / 256), BitVec.ofNat 8 n]

/-- Four bytes, most significant first, of a number (R132). -/
def bytesOf4 (n : Nat) : List Byte :=
  [BitVec.ofNat 8 (n / 2 ^ 24), BitVec.ofNat 8 (n / 2 ^ 16), BitVec.ofNat 8 (n / 256),
   BitVec.ofNat 8 n]

/-- The sum of the bytes of a sequence, each 0..255. -/
def sumOf (s : List Byte) : Nat := (s.map BitVec.toNat).sum

/-- The code of an enumerated packet kind (R93). -/
def codeOf : Kind → Nat
  | .command => 1
  | .data => 2
  | .ack => 7
  | .endOfData => 8

/-- The checksum of a frame with kind code `k` and payload `p`: kind, both length bytes and the payload
summed modulo 65536 (R96). -/
def checksumOf (k : Nat) (p : List Byte) : Nat :=
  (k + (p.length + 2) / 256 + (p.length + 2) % 256 + sumOf p) % 65536

/-- The frame of R90 with address `a`, kind code `k` and payload `p`. -/
def frameOf (a : Word) (k : Nat) (p : List Byte) : List Byte :=
  [0xEF, 0x01] ++ bytesOf4 a.toNat ++ [BitVec.ofNat 8 k] ++ bytesOf2 (p.length + 2) ++ p
    ++ bytesOf2 (checksumOf k p)

/-- The state after an accepted EXEC that wrote `frame` (R184): every register R184 writes, and
nothing else but HOST's reply and HOST's record of the command, which are the model's (log 5). -/
def commandSent (cmd : Option Instr) (frame : List Byte) (s : State) : State :=
  { s with
    rxq := [], rxbuf := [],
    res := .none, mreason := .none, stRaw := 0, st := none, extra := [],
    rxAddr := 0, rxKind := 0, rxLen := 0, rxCsum := 0, calcCsum := 0, csumOk := false,
    txlog := s.txlog ++ frame, tmo := s.opTimeout, timer := 0, eng := .wait,
    reply := .accepted, lastCmd := cmd }

/-- The command a payload spells, none where it spells none of the nine. -/
def commandOf (p : List Byte) : Option Instr :=
  match decode p with
  | .instr i => some i
  | .reject _ => none

/-- HOST's reading of the outcome in `s` is `r`, and reading changes nothing else (R192). The names of
the readings are the model's (log 5). -/
def ReadsAs (s : State) (r : Reading) : Prop :=
  ∀ rest, s.sched = .host .readOutcome :: rest →
    step s = .next { s with sched := rest, reply := .reading r }

/-- The reading of a command's failure, the status names in `except` left to the command's own rule
(R220d). -/
def FailuresRead (i : Instr) (except : List Status) : Prop :=
  ∀ s : State, s.eng ≠ .closed → s.lastCmd = some i →
    (∀ n, n ∉ except → s.res = .response → s.st = some n → ReadsAs s (.failure (.status n))) ∧
    (s.res = .timedOut → ReadsAs s (.failure .timedOut)) ∧
    (s.res = .malformed → ReadsAs s (.failure .malformed))

/-- A command whose response has no layout: Ok is success, every other end is a failure (R220d). -/
def PlainReading (i : Instr) : Prop :=
  (∀ s : State, s.eng ≠ .closed → s.lastCmd = some i → s.res = .response → s.st = some .ok →
    ReadsAs s .success) ∧
  FailuresRead i [.ok]

/-- The command `i` completes: in IDLE with a session, exec answers the state in which the frame with
payload `p` was sent to the session's address (R184, R220). -/
def Sends (i : Instr) (p : List Byte) : Prop :=
  ∀ (s : State) (a : Word), s.eng = .idle → s.addr = some a →
    exec i s = .next (commandSent (some i) (frameOf a 1 p) s)

/-- The state after HOST's sequence returned `r`. -/
def returned (r : SeqResult) (rest : List Event) (s : State) : State :=
  { s with sched := rest, seq := none, result := some r }

/-- The state after HOST's sequence moved to a position. -/
def moved (q : Sequence) (rest : List Event) (s : State) : State :=
  { s with sched := rest, seq := some q }

/-- In `s` HOST's next operation starts the sequence `r` and none runs; the step accepts it and HOST
stands at the position given, with ATT = 0. -/
def Starts (r : Request) (task : Task) (act : Activity) (s : State) : Prop :=
  ∀ rest, s.seq = none → s.sched = .host (.start r) :: rest →
    step s = .next
      { s with sched := rest, seq := some ⟨task, act, 0⟩, result := none, reply := .accepted }

/-- A wait of so many ticks before the next EXEC. -/
def pause (ticks : Nat) : Activity := if ticks = 0 then .issue else .delay ticks

/-- HOST's sequence `task` waits for an outcome that is there and readable, which a result is in an open
session only (R32), and HOST's turn is next. -/
def AtOutcome (task : Task) (att : Nat) (rest : List Event) (s : State) : Prop :=
  s.seq = some ⟨task, .await, att⟩ ∧ s.res ≠ .none ∧ s.eng ≠ .closed ∧
    s.sched = .host .turn :: rest

/-- The outcome is a response with the status name `n`. -/
def Answered (n : Status) (s : State) : Prop := s.res = .response ∧ s.st = some n

/-- The outcome is a failure of the command with cause `c`: a status other than Ok, or no status. -/
def FailedWith (c : Cause) (s : State) : Prop :=
  (∃ n, n ≠ .ok ∧ Answered n s ∧ c = .status n) ∨ (s.res = .timedOut ∧ c = .timedOut) ∨
    (s.res = .malformed ∧ c = .malformed)

/-- The acknowledgement frame with status 00 of 95_test_vectors.md D3. -/
def ackOk : List Byte := [0xEF, 0x01, 0xFF, 0xFF, 0xFF, 0xFF, 0x07, 0x00, 0x03, 0x00, 0x00, 0x0A]

end Sys2Proof.Claims

open Sys2Proof Sys2Proof.Machine Sys2Proof.Claims

/-! ## Encoding of the commands -/

/-- Every well-formed command is read back from its payload, with every operand (30_encoding.md,
section 2). -/
def Obligations.DecodeOfEncode : Prop :=
  ∀ i : Instr, i.wf = true → decode (encode i) = .instr i

/-- A payload that decodes to a command is that command's encoding: each payload has one meaning. -/
def Obligations.EncodeOfDecode : Prop :=
  ∀ (p : List Byte) (i : Instr), decode p = .instr i → encode i = p

/-- The table's number for a command's payload, byte 0 most significant (00_scope.md R13), is read back
as the command. -/
def Obligations.TableWordRoundTrip : Prop :=
  ∀ i : Instr, decodeTableWord (8 * (encode i).length) (bytesWord (encode i)) = some i

/-- Words of the nine rows of the opcode table, written out from the encodings of R101. -/
def Obligations.TableWordsDecode : Prop :=
  decodeTableWord 8 0x01 = some .captureImage ∧
  decodeTableWord 16 0x0202 = some (.imageToTemplate 2) ∧
  decodeTableWord 48 0x0401000000A3 = some (.search 1 0 0x00A3) ∧
  decodeTableWord 8 0x05 = some .registerModel ∧
  decodeTableWord 32 0x06010102 = some (.storeModel 1 0x0102) ∧
  decodeTableWord 40 0x0C00050001 = some (.deleteModel 5 1) ∧
  decodeTableWord 8 0x0D = some .emptyDatabase ∧
  decodeTableWord 40 0x1312345678 = some (.verifyPassword 0x12345678) ∧
  decodeTableWord 8 0x1D = some .templateCount

/-- A payload outside the nine formats is no command, by name (R101, R102). -/
def Obligations.OtherPayloadsRejected : Prop :=
  decode [] = .reject .emptyPayload ∧
  (∀ (op : Byte) (args : List Byte),
    op ∉ ([0x01, 0x02, 0x04, 0x05, 0x06, 0x0C, 0x0D, 0x13, 0x1D] : List Byte) →
    decode (op :: args) = .reject (.unassignedOpcode op)) ∧
  (∀ (op : Byte) (args : List Byte),
    op ∈ ([0x01, 0x02, 0x04, 0x05, 0x06, 0x0C, 0x0D, 0x13, 0x1D] : List Byte) →
    (∀ i, encode i ≠ op :: args) → decode (op :: args) = .reject (.wrongLength op))

/-- When HOST's next operation is EXEC of a payload that decodes to a command, the step is exec of that
command with the timeout operand presented and the schedule moved on. -/
def Obligations.StepRunsDecodedCommand : Prop :=
  ∀ (s : State) (p : List Byte) (t : Word) (rest : List Event) (i : Instr),
    s.sched = .host (.exec p t) :: rest → decode p = .instr i →
    step s = exec i { s with sched := rest, opTimeout := t }

/-- A placed table word is the command the next step runs: on an open session at once, and otherwise
after the OPEN that R323 requires (the model's choice, log 12). -/
def Obligations.PlacedWordRunsNext : Prop :=
  ∀ (s : State) (nbits w : Nat) (i : Instr), decodeTableWord nbits w = some i →
    (s.eng ≠ .closed → step (s.withFetchWord nbits w) = exec i s) ∧
    (s.eng = .closed →
      step (s.withFetchWord nbits w) = exec i (openEffect s.cfg.sessionAddr s.cfg.sessionPwd s))

/-! ## The codec -/

/-- CSUM16 is the sum of the bytes modulo 65536, 0 of the empty sequence, whatever their order (R130). -/
def Obligations.Csum16SumsModulo65536 : Prop :=
  (∀ s : List Byte, (CSUM16 s).toNat = sumOf s % 65536) ∧
  CSUM16 [] = 0 ∧
  (∀ s t : List Byte, s.Perm t → CSUM16 s = CSUM16 t)

/-- be16 and be32 are the big-endian bytes, and u16 and u32 read them back (R132). -/
def Obligations.MultiByteAssembly : Prop :=
  (∀ v : Half, be16 v = [BitVec.ofNat 8 (v.toNat / 256), BitVec.ofNat 8 (v.toNat % 256)] ∧
    u16At (be16 v) 0 = v) ∧
  (∀ v : Word, be32 v = [BitVec.ofNat 8 (v.toNat / 2 ^ 24),
      BitVec.ofNat 8 (v.toNat / 2 ^ 16 % 256), BitVec.ofNat 8 (v.toNat / 2 ^ 8 % 256),
      BitVec.ofNat 8 (v.toNat % 256)] ∧
    u32At (be32 v) 0 = v)

/-- ENCODE gives the frame of R90 for every payload of at most 65533 bytes and refuses a longer one
with no bytes; HOST using it alone receives the frame or BadPayloadLength (R133, R135). -/
def Obligations.EncodeBuildsTheFrame : Prop :=
  ∀ (a : Word) (k : Kind) (p : List Byte),
    (p.length ≤ 65533 → ENCODE a k p = some (frameOf a (codeOf k) p) ∧
      (frameOf a (codeOf k) p).length = 11 + p.length) ∧
    (65533 < p.length → ENCODE a k p = none) ∧
    (∀ (s : State) (rest : List Event), s.sched = .host (.encodeFrame a k p) :: rest →
      (p.length ≤ 65533 →
        step s = .next { s with sched := rest, reply := .encoded (frameOf a (codeOf k) p) }) ∧
      (65533 < p.length →
        step s = .next { s with sched := rest, reply := .refused .badPayloadLength }))

/-- Different operands give different frames (40_codec_encode.md, section 4). -/
def Obligations.EncodeIsInjective : Prop :=
  ∀ (a a' : Word) (k k' : Kind) (p p' : List Byte) (f : List Byte),
    ENCODE a k p = some f → ENCODE a' k' p' = some f → a = a' ∧ k = k' ∧ p = p'

/-- DECODE of an encoded frame, with anything after it, gives the operands back under either value of
CHK_STRICT; the frame of the empty payload needs a twelfth byte (40_codec_encode.md, section 4). -/
def Obligations.DecodeOfEncodedFrame : Prop :=
  ∀ (strict : Bool) (a : Word) (k : Kind) (p f : List Byte), ENCODE a k p = some f →
    (∀ t : List Byte, 12 ≤ (f ++ t).length →
      DECODE strict (f ++ t) = .frame
        { addr := a
          kind := BitVec.ofNat 8 (codeOf k)
          len := BitVec.ofNat 16 (p.length + 2)
          payload := p
          rxCsum := BitVec.ofNat 16 (checksumOf (codeOf k) p)
          calcCsum := BitVec.ofNat 16 (checksumOf (codeOf k) p)
          csumOk := true }) ∧
    (1 ≤ p.length → 12 ≤ f.length) ∧
    (p = [] → DECODE strict f = .needMoreData)

/-- The length gate, the start-marker detector and the declared length below 2, in this order (R151,
R152, R154). -/
def Obligations.DecodeFirstTests : Prop :=
  ∀ (strict : Bool) (b : List Byte),
    (b.length < 12 → DECODE strict b = .needMoreData) ∧
    (12 ≤ b.length → ¬(b[0]? = some 0xEF ∧ b[1]? = some 0x01) →
      DECODE strict b = .malformed .badMarker) ∧
    (∀ h l : Byte, 12 ≤ b.length → b[0]? = some 0xEF → b[1]? = some 0x01 → b[7]? = some h →
      b[8]? = some l → h.toNat * 256 + l.toNat < 2 → DECODE strict b = .malformed .badLength)

/-- A buffer with the marker and a declared length L of at least 2: NeedMoreData until 9 + L bytes are
there; then the fields, the computed checksum and, only under CHK_STRICT = 1, BAD_CHECKSUM (R155, R157,
R158). Bytes after the frame change nothing. -/
def Obligations.DecodeCompleteFrame : Prop :=
  ∀ (strict : Bool) (a3 a2 a1 a0 k h l : Byte) (body : List Byte),
    3 ≤ body.length → 2 ≤ h.toNat * 256 + l.toNat →
    (body.length < h.toNat * 256 + l.toNat →
      DECODE strict (0xEF :: 0x01 :: a3 :: a2 :: a1 :: a0 :: k :: h :: l :: body) =
        .needMoreData) ∧
    (∀ (payload t : List Byte) (c1 c0 : Byte), body = payload ++ c1 :: c0 :: t →
      payload.length + 2 = h.toNat * 256 + l.toNat →
      ((strict = true ∧
          (k.toNat + h.toNat + l.toNat + sumOf payload) % 65536 ≠ c1.toNat * 256 + c0.toNat) →
        DECODE strict (0xEF :: 0x01 :: a3 :: a2 :: a1 :: a0 :: k :: h :: l :: body) =
          .malformed .badChecksum) ∧
      (¬(strict = true ∧
          (k.toNat + h.toNat + l.toNat + sumOf payload) % 65536 ≠ c1.toNat * 256 + c0.toNat) →
        DECODE strict (0xEF :: 0x01 :: a3 :: a2 :: a1 :: a0 :: k :: h :: l :: body) = .frame
          { addr := BitVec.ofNat 32
              (((a3.toNat * 256 + a2.toNat) * 256 + a1.toNat) * 256 + a0.toNat)
            kind := k
            len := BitVec.ofNat 16 (h.toNat * 256 + l.toNat)
            payload := payload
            rxCsum := BitVec.ofNat 16 (c1.toNat * 256 + c0.toNat)
            calcCsum := BitVec.ofNat 16 (k.toNat + h.toNat + l.toNat + sumOf payload)
            csumOk := decide ((k.toNat + h.toNat + l.toNat + sumOf payload) % 65536 =
              c1.toNat * 256 + c0.toNat) }))

/-- Once a buffer has a verdict other than NeedMoreData, more bytes never change it
(41_codec_decode.md, section 3). -/
def Obligations.DecodeIsMonotone : Prop :=
  ∀ (strict : Bool) (b t : List Byte),
    (∀ f, DECODE strict b = .frame f → DECODE strict (b ++ t) = .frame f) ∧
    (∀ d, DECODE strict b = .malformed d → DECODE strict (b ++ t) = .malformed d)

/-- The fields of a Frame verdict are the MemReads of the buffer, each within it, and the payload has
L - 2 bytes (00_scope.md R14, 41_codec_decode.md section 1). -/
def Obligations.DecodedFieldsAreMemReads : Prop :=
  ∀ (strict : Bool) (b : List Byte) (f : Frame), DECODE strict b = .frame f →
    memRead b 2 4 = some f.addr.toNat ∧
    memRead b 6 1 = some f.kind.toNat ∧
    memRead b 7 2 = some f.len.toNat ∧
    memRead b (9 + f.len.toNat - 2) 2 = some f.rxCsum.toNat ∧
    f.payload.length + 2 = f.len.toNat ∧
    (strict = true → f.csumOk = true) ∧
    (f.csumOk = true ↔ f.calcCsum = f.rxCsum)

/-- The class of a received kind byte, Reserved for every byte but the four (R159). -/
def Obligations.KindByteClasses : Prop :=
  kindClass 0x01 = .known .command ∧ kindClass 0x02 = .known .data ∧
  kindClass 0x07 = .known .ack ∧ kindClass 0x08 = .known .endOfData ∧
  (∀ b : Byte, b ≠ 0x01 → b ≠ 0x02 → b ≠ 0x07 → b ≠ 0x08 → kindClass b = .reserved)

/-! ## Session, EXEC and the commands -/

/-- OPEN (R181). -/
def Obligations.OpenStartsASession : Prop :=
  ∀ (s : State) (a p : Word) (rest : List Event), s.sched = .host (.openSession a p) :: rest →
    (s.eng = .closed → step s = .next
      { s with
        addr := some a, pwd := some p, rxbuf := [], tmo := 0, timer := 0,
        res := .none, mreason := .none, stRaw := 0, st := none, extra := [],
        rxAddr := 0, rxKind := 0, rxLen := 0, rxCsum := 0, calcCsum := 0, csumOk := false,
        eng := .idle, reply := .accepted, sched := rest }) ∧
    (s.eng ≠ .closed → step s = .next { s with reply := .refused .alreadyOpen, sched := rest })

/-- CLOSE (R182). -/
def Obligations.CloseEndsTheSession : Prop :=
  ∀ (s : State) (rest : List Event), s.sched = .host .closeSession :: rest →
    (s.eng = .idle → step s = .next
      { s with addr := none, pwd := none, eng := .closed, reply := .accepted, sched := rest }) ∧
    (s.eng = .closed → step s = .next { s with reply := .refused .notOpen, sched := rest }) ∧
    (s.eng = .wait → step s = .next { s with reply := .refused .busy, sched := rest })

/-- The acceptance tests of EXEC and their order: a refused EXEC changes nothing but what HOST holds
(R183). -/
def Obligations.ExecAcceptanceTests : Prop :=
  ∀ (s : State) (p : List Byte) (t : Word) (rest : List Event),
    s.sched = .host (.exec p t) :: rest →
    (s.eng = .closed → step s = .next
      { s with sched := rest, opTimeout := t, reply := .refused .notOpen }) ∧
    (s.eng = .wait → step s = .next
      { s with sched := rest, opTimeout := t, reply := .refused .busy }) ∧
    (s.eng = .idle → (p.length < 1 ∨ 65533 < p.length) → step s = .next
      { s with sched := rest, opTimeout := t, reply := .refused .badPayloadLength })

/-- The accepted step of EXEC, for any payload of 1 to 65533 bytes, a command's or not (R184). -/
def Obligations.ExecAcceptedStep : Prop :=
  ∀ (s : State) (p : List Byte) (t a : Word) (rest : List Event),
    s.sched = .host (.exec p t) :: rest → s.eng = .idle → s.addr = some a →
    1 ≤ p.length → p.length ≤ 65533 →
    step s = .next
      (commandSent (commandOf p) (frameOf a 1 p) { s with sched := rest, opTimeout := t })

/-- capture-image (R222): what it sends and how HOST reads its response. -/
def Obligations.CaptureImageCommand : Prop :=
  Sends .captureImage [0x01] ∧
  (∀ s : State, s.eng ≠ .closed → s.lastCmd = some .captureImage → s.res = .response →
    (s.st = some .ok → ReadsAs s .success) ∧
    (s.st = some .noFingerDetected → ReadsAs s .noFingerYet)) ∧
  FailuresRead .captureImage [.ok, .noFingerDetected]

/-- image-to-template (R223): what it sends, for every slot, and how HOST reads its response. -/
def Obligations.ImageToTemplateCommand : Prop :=
  ∀ slot : Byte, Sends (.imageToTemplate slot) [0x02, slot] ∧ PlainReading (.imageToTemplate slot)

/-- search: it sends slot, then range-low, then range-high; Ok with four extra bytes is a match with id
and confidence, Ok with fewer is reported, any other status is no match. The layout is PRESUMED
(log 11; the spec marks it general knowledge). -/
def Obligations.SearchCommand : Prop :=
  ∀ (slot : Byte) (low high : Half),
    Sends (.search slot low high)
      ([0x04, slot] ++ bytesOf2 low.toNat ++ bytesOf2 high.toNat) ∧
    ∀ s : State, s.eng ≠ .closed → s.lastCmd = some (.search slot low high) →
    (∀ (e0 e1 e2 e3 : Byte) (more : List Byte), s.res = .response → s.st = some .ok →
      s.extra = e0 :: e1 :: e2 :: e3 :: more →
      ReadsAs s (.matched (BitVec.ofNat 16 (e0.toNat * 256 + e1.toNat))
        (BitVec.ofNat 16 (e2.toNat * 256 + e3.toNat)))) ∧
    (s.res = .response → s.st = some .ok → s.extra.length < 4 → ReadsAs s .shortExtras) ∧
    (∀ n, n ≠ .ok → s.res = .response → s.st = some n → ReadsAs s (.noMatch n)) ∧
    (s.res = .timedOut → ReadsAs s (.failure .timedOut)) ∧
    (s.res = .malformed → ReadsAs s (.failure .malformed))

/-- register-model (R224). -/
def Obligations.RegisterModelCommand : Prop :=
  Sends .registerModel [0x05] ∧ PlainReading .registerModel

/-- store-model (R225): slot before location. -/
def Obligations.StoreModelCommand : Prop :=
  ∀ (slot : Byte) (location : Half),
    Sends (.storeModel slot location) ([0x06, slot] ++ bytesOf2 location.toNat) ∧
    PlainReading (.storeModel slot location)

/-- delete-model (R227). -/
def Obligations.DeleteModelCommand : Prop :=
  ∀ location count : Half,
    Sends (.deleteModel location count)
      ([0x0C] ++ bytesOf2 location.toNat ++ bytesOf2 count.toNat) ∧
    PlainReading (.deleteModel location count)

/-- empty-database (R228). -/
def Obligations.EmptyDatabaseCommand : Prop :=
  Sends .emptyDatabase [0x0D] ∧ PlainReading .emptyDatabase

/-- verify-password (R221). -/
def Obligations.VerifyPasswordCommand : Prop :=
  ∀ password : Word,
    Sends (.verifyPassword password) ([0x13] ++ bytesOf4 password.toNat) ∧
    PlainReading (.verifyPassword password)

/-- template-count: what it sends and how HOST reads the count. The layout of the count is PRESUMED
(log 11; the spec marks it general knowledge). -/
def Obligations.TemplateCountCommand : Prop :=
  Sends .templateCount [0x1D] ∧
  (∀ s : State, s.eng ≠ .closed → s.lastCmd = some .templateCount → s.res = .response →
    s.st = some .ok →
    (∀ (e0 e1 : Byte) (more : List Byte), s.extra = e0 :: e1 :: more →
      ReadsAs s (.count (BitVec.ofNat 16 (e0.toNat * 256 + e1.toNat)))) ∧
    (s.extra.length < 2 → ReadsAs s .shortExtras)) ∧
  FailuresRead .templateCount [.ok]

/-- The frame of all nine commands. In every next state the parameters, ADDR, PWD, the transport's
configuration, HOST's sequence and result, the presented timeout and the schedule are unchanged; every
byte of TXLOG reads as before at every index it had. Outside IDLE the command is refused, NotOpen
without a session and Busy during a transaction, and leaves every register, every flag, RXQ, RXBUF
and TXLOG unchanged; an accepted one stores no byte to RXBUF and writes to TXLOG exactly its own frame,
from the index TXLOG ended at. -/
def Obligations.CommandsFrame : Prop :=
  ∀ (i : Instr) (s t : State), exec i s = .next t →
    (s.eng = .closed → t = { s with reply := .refused .notOpen }) ∧
    (s.eng = .wait → t = { s with reply := .refused .busy }) ∧
    (t.cfg = s.cfg ∧ t.addr = s.addr ∧ t.pwd = s.pwd ∧ t.tcfg = s.tcfg ∧ t.parked = s.parked ∧
      t.seq = s.seq ∧ t.result = s.result ∧ t.opTimeout = s.opTimeout ∧ t.sched = s.sched) ∧
    (∀ n, n < s.txlog.length → t.txlog[n]? = s.txlog[n]?) ∧
    (s.eng = .idle → ∃ a, s.addr = some a ∧ (∀ n : Nat, t.rxbuf[n]? = none) ∧
      ∀ n, t.txlog[s.txlog.length + n]? = (frameOf a 1 (encode i))[n]?)

/-! ## The steps while waiting -/

/-- RX that completes a frame: the frame-field registers and CSUM_OK, then, in the same step, the status,
the extras and the end RESPONSE, or for a frame without a payload the end MALFORMED with EMPTY_PAYLOAD
(R186). -/
def Obligations.RxDeliversTheResponse : Prop :=
  ∀ (s : State) (k : Nat) (rest : List Event) (f : Frame),
    s.sched = .rx k :: rest → s.eng = .wait → s.rxq ≠ [] →
    DECODE s.cfg.chkStrict (append s.rxbuf (s.rxq.take (min (max k 1) s.rxq.length))) = .frame f →
    (∀ (b : Byte) (xs : List Byte), f.payload = b :: xs →
      step s = .next
        { s with
          sched := rest
          rxq := s.rxq.drop (min (max k 1) s.rxq.length)
          rxbuf := append s.rxbuf (s.rxq.take (min (max k 1) s.rxq.length))
          rxAddr := f.addr, rxKind := f.kind, rxLen := f.len, rxCsum := f.rxCsum,
          calcCsum := f.calcCsum, csumOk := f.csumOk,
          stRaw := b, st := some (statusName s.cfg.statusTable b), extra := xs,
          res := .response, mreason := .none, eng := .idle }) ∧
    (f.payload = [] →
      step s = .next
        { s with
          sched := rest
          rxq := s.rxq.drop (min (max k 1) s.rxq.length)
          rxbuf := append s.rxbuf (s.rxq.take (min (max k 1) s.rxq.length))
          rxAddr := f.addr, rxKind := f.kind, rxLen := f.len, rxCsum := f.rxCsum,
          calcCsum := f.calcCsum, csumOk := f.csumOk,
          res := .malformed, mreason := .emptyPayload, eng := .idle })

/-- RX that completes a frame without a payload: MALFORMED with EMPTY_PAYLOAD, the frame-field registers
and CSUM_OK written, ST_RAW 0, ST no value, EXTRA empty (R187). The cleared results are what the
invariant gives of every state in WAIT. -/
def Obligations.RxEmptyPayloadIsMalformed : Prop :=
  ∀ (s : State) (k : Nat) (rest : List Event) (f : Frame),
    s.sched = .rx k :: rest → s.eng = .wait → s.ResultsClear → s.rxq ≠ [] →
    DECODE s.cfg.chkStrict (append s.rxbuf (s.rxq.take (min (max k 1) s.rxq.length))) = .frame f →
    f.payload = [] →
    step s = .next
      { s with
        sched := rest
        rxq := s.rxq.drop (min (max k 1) s.rxq.length)
        rxbuf := append s.rxbuf (s.rxq.take (min (max k 1) s.rxq.length))
        rxAddr := f.addr, rxKind := f.kind, rxLen := f.len, rxCsum := f.rxCsum,
        calcCsum := f.calcCsum, csumOk := f.csumOk,
        stRaw := 0, st := none, extra := [],
        res := .malformed, mreason := .emptyPayload, eng := .idle }

/-- RX whose buffer DECODE answers Malformed: the transaction ends at once with that reason; no flush,
no search, no other register written (R188). -/
def Obligations.RxMalformedEndsAtOnce : Prop :=
  ∀ (s : State) (k : Nat) (rest : List Event) (d : Defect) (r : MReason),
    s.sched = .rx k :: rest → s.eng = .wait → s.rxq ≠ [] →
    DECODE s.cfg.chkStrict (append s.rxbuf (s.rxq.take (min (max k 1) s.rxq.length))) =
      .malformed d →
    ((d = .badMarker ∧ r = .badMarker) ∨ (d = .badLength ∧ r = .badLength) ∨
      (d = .badChecksum ∧ r = .badChecksum)) →
    step s = .next
      { s with
        sched := rest
        rxq := s.rxq.drop (min (max k 1) s.rxq.length)
        rxbuf := append s.rxbuf (s.rxq.take (min (max k 1) s.rxq.length))
        res := .malformed, mreason := r, eng := .idle }

/-- RX goes on waiting on NeedMoreData (R185). The model's choice (log 17): the read of an entry returns
the k bytes it asks for, limited to 1 up to all of RXQ; and where R185 does not enable the RX step, outside
WAIT or with RXQ empty, the entry is a step that changes nothing. -/
def Obligations.RxWaitsOrIsNotEnabled : Prop :=
  ∀ (s : State) (k : Nat) (rest : List Event), s.sched = .rx k :: rest →
    (s.eng = .wait → s.rxq ≠ [] →
      DECODE s.cfg.chkStrict (append s.rxbuf (s.rxq.take (min (max k 1) s.rxq.length))) =
        .needMoreData →
      step s = .next
        { s with
          sched := rest
          rxq := s.rxq.drop (min (max k 1) s.rxq.length)
          rxbuf := append s.rxbuf (s.rxq.take (min (max k 1) s.rxq.length)) }) ∧
    ((s.eng ≠ .wait ∨ s.rxq = []) → step s = .next { s with sched := rest })

/-- Append: the bytes go to the indices from RXLEN on, in order, while RXLEN < RX_CAP; the others are
dropped; no byte held before changes (R66). -/
def Obligations.AppendFillsToCapacity : Prop :=
  ∀ b s : List Byte, b.length ≤ 65544 →
    append b s = (b ++ s).take 65544 ∧
    (append b s).length ≤ 65544 ∧
    (∀ n, n < b.length → (append b s)[n]? = b[n]?)

/-- TICK: in WAIT it adds 1 to TIMER and ends the transaction TIMEDOUT when TIMER reaches TMO; in CLOSED
and IDLE it changes nothing in the block (42_engine_execute.md section 4). That HOST's delay counter, if
one runs, moves in the same step is the model's inference (log 19). -/
def Obligations.TickCountsAndExpires : Prop :=
  ∀ (s : State) (rest : List Event), s.sched = .tick :: rest →
    (s.eng = .wait → s.tmo.toNat ≤ (s.timer + 1).toNat → step s = .next
      { s with sched := rest, seq := s.seq.map Sequence.tick, timer := s.timer + 1,
               res := .timedOut, mreason := .none, eng := .idle }) ∧
    (s.eng = .wait → (s.timer + 1).toNat < s.tmo.toNat → step s = .next
      { s with sched := rest, seq := s.seq.map Sequence.tick, timer := s.timer + 1 }) ∧
    (s.eng ≠ .wait → step s = .next { s with sched := rest, seq := s.seq.map Sequence.tick })

/-- A timeout of 0 or 1 expires at the first TICK, and a response read before that TICK still wins
(42_engine_execute.md, section 4). -/
def Obligations.TimeoutOfZeroOrOne : Prop :=
  ∀ (s : State) (p : List Byte) (t a : Word) (rest : List Event),
    s.eng = .idle → s.addr = some a → 1 ≤ p.length → p.length ≤ 65533 → (t = 0 ∨ t = 1) →
    (s.sched = .host (.exec p t) :: .tick :: rest →
      ∃ u : State, Host.Core.run core 2 s = .next u ∧ u.eng = .idle ∧ u.res = .timedOut ∧
        u.mreason = .none ∧ u.timer = 1 ∧ u.tmo = t ∧ u.sched = rest) ∧
    (s.sched = .host (.exec p t) :: .device ackOk :: .rx 12 :: .tick :: rest →
      ∃ u : State, Host.Core.run core 4 s = .next u ∧ u.eng = .idle ∧ u.res = .response ∧
        u.stRaw = 0 ∧ u.timer = 0 ∧ u.tmo = t ∧ u.sched = rest)

/-! ## Reset, reads and the invariants -/

/-- The reset event: every register of the block at its reset value, the parameters, RXQ and TXLOG as
they were, in every state (70_reset_and_hazards.md section 1). That HOST's sequence, result and records
stay is the model's choice (log 9). -/
def Obligations.ResetEvent : Prop :=
  ∀ (s : State) (rest : List Event), s.sched = .reset :: rest →
    step s = .next
      { s with
        eng := .closed, addr := none, pwd := none, rxbuf := [], tmo := 0, timer := 0,
        res := .none, mreason := .none, stRaw := 0, st := none, extra := [],
        rxAddr := 0, rxKind := 0, rxLen := 0, rxCsum := 0, calcCsum := 0, csumOk := false,
        sched := rest }

/-- The registers of the reset state (the "after reset" column of 10_state.md section 10) and an
empty TXLOG; RXQ empty is the model's choice (log 2). -/
def Obligations.ResetState : Prop :=
  State.reset.eng = .closed ∧ State.reset.addr = none ∧ State.reset.pwd = none ∧
  State.reset.rxlen = 0 ∧ State.reset.tmo = 0 ∧ State.reset.timer = 0 ∧
  State.reset.res = .none ∧ State.reset.mreason = .none ∧ State.reset.stRaw = 0 ∧
  State.reset.exlen = 0 ∧ State.reset.st = none ∧ State.reset.extra = [] ∧
  State.reset.rxAddr = 0 ∧ State.reset.rxKind = 0 ∧ State.reset.rxLen = 0 ∧
  State.reset.rxCsum = 0 ∧ State.reset.calcCsum = 0 ∧ State.reset.csumOk = false ∧
  State.reset.busy = false ∧ State.reset.doneFlag = false ∧
  State.reset.rxq = [] ∧ State.reset.txlog = []

/-- HOST reads of registers: NotOpen in CLOSED but for ENG, BUSY and DONE, otherwise the value, and no
side effect (10_state.md section 9, 42_engine_execute.md section 5). -/
def Obligations.RegisterReads : Prop :=
  ∀ (s : State) (r : Reg) (rest : List Event), s.sched = .host (.read r) :: rest →
    (s.eng = .closed → r ≠ .eng → r ≠ .busy → r ≠ .done →
      step s = .next { s with sched := rest, reply := .refused .notOpen }) ∧
    ((s.eng ≠ .closed ∨ r = .eng ∨ r = .busy ∨ r = .done) →
      step s = .next
        { s with
          sched := rest
          reply := .value
            (match r with
            | .addr => (match s.addr with | some v => .bits 32 v.toNat | none => .absent)
            | .pwd => (match s.pwd with | some v => .bits 32 v.toNat | none => .absent)
            | .eng => .bits 2 (match s.eng with | .closed => 0 | .idle => 1 | .wait => 2)
            | .tmo => .bits 32 s.tmo.toNat
            | .timer => .bits 32 s.timer.toNat
            | .res => .bits 2
                (match s.res with | .none => 0 | .response => 1 | .timedOut => 2 | .malformed => 3)
            | .mreason => .bits 3
                (match s.mreason with
                | .none => 0 | .badMarker => 1 | .badLength => 2 | .badChecksum => 3
                | .emptyPayload => 4)
            | .stRaw => .bits 8 s.stRaw.toNat
            | .st => (match s.st with | some n => .status n | none => .absent)
            | .extra => .bytes s.extra
            | .exlen => .bits 16 (s.extra.length % 65536)
            | .rxAddr => .bits 32 s.rxAddr.toNat
            | .rxKind => .bits 8 s.rxKind.toNat
            | .rxLen => .bits 16 s.rxLen.toNat
            | .rxCsum => .bits 16 s.rxCsum.toNat
            | .calcCsum => .bits 16 s.calcCsum.toNat
            | .csumOk => .bits 1 (if s.csumOk = true then 1 else 0)
            | .busy => .bits 1 (if s.eng = .wait then 1 else 0)
            | .done => .bits 1 (if s.res = .none then 0 else 1)) })

/-- The invariant holds at reset, and in every initial state whatever the parameters and RXQ. -/
def Obligations.InvariantAtReset : Prop :=
  State.reset.Inv ∧ ∀ (cfg : Config) (rxq : List Byte), (State.initial cfg rxq).Inv

/-- Every step of every agent keeps the invariant: 10_state.md section 12 and the range of ATT. -/
def Obligations.StepKeepsInvariant : Prop :=
  ∀ s t : State, s.Inv → step s = .next t → t.Inv

/-- In a state with the invariant no step faults, and the only refusal is a second host sequence started
beside a running one (20_memory.md section 4, 93_implementation_defined.md U17). -/
def Obligations.OnlyInterleavedSequencesStop : Prop :=
  ∀ s : State, s.Inv →
    (∀ r, step s ≠ .fault r) ∧
    (∀ r, step s = .refused r → r = .interleavedSequences ∧ s.seq ≠ none ∧
      ∃ q rest, s.sched = .host (.start q) :: rest)

/-- The transitions of ENG, over every event: no other event changes it (42_engine_execute.md, section
6). A turn of a running host sequence is an OPEN, a CLOSE or an EXEC. -/
def Obligations.EngTransitions : Prop :=
  ∀ (s t : State) (e : Event) (rest : List Event), s.sched = e :: rest → step s = .next t →
    (s.eng = .closed → t.eng = .closed ∨
      (t.eng = .idle ∧ ((∃ a p, e = .host (.openSession a p)) ∨ e = .host .turn))) ∧
    (s.eng = .idle → t.eng = .idle ∨
      (t.eng = .closed ∧ (e = .host .closeSession ∨ e = .host .turn ∨ e = .reset)) ∨
      (t.eng = .wait ∧ ((∃ p w, e = .host (.exec p w) ∧ 1 ≤ p.length ∧ p.length ≤ 65533) ∨
        e = .host .turn))) ∧
    (s.eng = .wait → t.eng = .wait ∨
      (t.eng = .idle ∧ (e = .tick ∨ ∃ k, e = .rx k)) ∨
      (t.eng = .closed ∧ e = .reset))

/-- ADDR and PWD are read-only after construction: no step that starts and ends with a session open
changes them, and without a session they hold no value. -/
def Obligations.SessionRegistersReadOnly : Prop :=
  ∀ s t : State, step s = .next t →
    (s.eng ≠ .closed → t.eng ≠ .closed → t.addr = s.addr ∧ t.pwd = s.pwd) ∧
    (s.eng ≠ .closed → t.eng = .closed → t.addr = none ∧ t.pwd = none)

/-- Only an accepted EXEC writes: in one step TXLOG stays, or grows by exactly one Command frame to the
session's address, from IDLE to WAIT, so there is one outstanding request. The model's choice (log 3):
a third case is a new transport, attached in CLOSED only, with empty RXQ and TXLOG and the old one kept;
and the operation that attaches one is accepted in CLOSED and refused AlreadyOpen otherwise. -/
def Obligations.TxlogGrowsByCommandFrames : Prop :=
  (∀ s t : State, step s = .next t →
    (t.txlog = s.txlog ∧ t.parked = s.parked) ∨
    (∃ (a : Word) (p : List Byte), s.eng = .idle ∧ t.eng = .wait ∧ s.addr = some a ∧
      1 ≤ p.length ∧ p.length ≤ 65533 ∧ t.txlog = s.txlog ++ frameOf a 1 p ∧
      t.parked = s.parked ∧ t.rxq = []) ∨
    (s.eng = .closed ∧ t.txlog = [] ∧ t.rxq = [] ∧
      t.parked = s.parked ++ [{ tcfg := s.tcfg, rxq := s.rxq, txlog := s.txlog }])) ∧
  (∀ (s : State) (c : TransportConfig) (rest : List Event),
    s.sched = .host (.attach c) :: rest →
    (s.eng = .closed → step s = .next
      { s with
        sched := rest, reply := .accepted,
        parked := s.parked ++ [{ tcfg := s.tcfg, rxq := s.rxq, txlog := s.txlog }],
        tcfg := some c, rxq := [], txlog := [] }) ∧
    (s.eng ≠ .closed → step s = .next
      { s with sched := rest, reply := .refused .alreadyOpen }))

/-- RXQ is first in first out. DEVICE's bytes go to its tail and change nothing else (10_state.md section
3). Every other event leaves it, but for three: RX in WAIT takes from its head the bytes it appends to
RXBUF (how many, the entry says: log 17); an EXEC accepted in IDLE empties it; and a new transport
attached in CLOSED is empty (the model's choice, log 3). No event changes the parameters. -/
def Obligations.RxqIsFirstInFirstOut : Prop :=
  (∀ (s : State) (b : List Byte) (rest : List Event), s.sched = .device b :: rest →
    step s = .next { s with rxq := s.rxq ++ b, sched := rest }) ∧
  (∀ s : State, s.sched = [] → step s = .next s) ∧
  (∀ (s t : State) (e : Event) (rest : List Event), s.sched = e :: rest → step s = .next t →
    t.cfg = s.cfg ∧
    ((∃ b, e = .device b) ∨ t.rxq = s.rxq ∨
      (s.eng = .wait ∧ s.rxq ≠ [] ∧ ∃ k, e = .rx k ∧
        t.rxq = s.rxq.drop (min (max k 1) s.rxq.length) ∧
        t.rxbuf = append s.rxbuf (s.rxq.take (min (max k 1) s.rxq.length))) ∨
      (s.eng = .idle ∧ t.eng = .wait ∧ t.rxq = [] ∧ t.rxbuf = [] ∧
        ((∃ p w, e = .host (.exec p w)) ∨ e = .host .turn)) ∨
      (s.eng = .closed ∧ t.rxq = [] ∧
        t.parked = s.parked ++ [{ tcfg := s.tcfg, rxq := s.rxq, txlog := s.txlog }] ∧
        ((∃ c, e = .host (.attach c)) ∨ e = .host .turn))))

/-- A transaction is bounded by its timeout: from a state in WAIT, a schedule of RX, TICK and DEVICE
events with at least max(TMO, 1) TICKs reaches, within it, a state in IDLE with an outcome
(42_engine_execute.md section 6). -/
def Obligations.TransactionIsBounded : Prop :=
  ∀ s : State, s.Inv → s.eng = .wait →
    (∀ e ∈ s.sched, e = .tick ∨ (∃ k, e = .rx k) ∨ ∃ b, e = .device b) →
    max s.tmo.toNat 1 ≤ (s.sched.filter (fun e => decide (e = .tick))).length →
    ∃ (n : Nat) (t : State), n ≤ s.sched.length ∧ Host.Core.run core n s = .next t ∧
      t.eng = .idle ∧ t.res ≠ .none ∧ t.txlog = s.txlog

/-- Chunking does not matter: two sequences of reads of the same RXQ, each carried on until RXQ is empty
or the transaction has ended, leave the same state but for RXBUF and RXQ (20_memory.md section 4). -/
def Obligations.ChunkingDoesNotMatter : Prop :=
  ∀ (s t t' : State) (ks ks' : List Nat), s.Inv → s.eng = .wait →
    Host.Core.run core ks.length { s with sched := ks.map Event.rx } = .next t →
    Host.Core.run core ks'.length { s with sched := ks'.map Event.rx } = .next t' →
    (t.rxq = [] ∨ t.eng ≠ .wait) → (t'.rxq = [] ∨ t'.eng ≠ .wait) →
    { t with rxbuf := [], rxq := [] } = { t' with rxbuf := [], rxq := [] }

/-- STATUS under every table R111 allows: a byte with a row has the name of that row; each
device-reported name has one byte, in 0x00..0x18; every byte without a name, every byte above 0x18 among
them, is Unknown (R111). -/
def Obligations.StatusNamesUnderTheTable : Prop :=
  ∀ t : StatusTable, StatusTable.wf t = true →
    (∀ (b : Byte) (n : Status), (b, n) ∈ t → statusName t b = n) ∧
    (∀ n ∈ deviceStatuses, ∃ b : Byte, b.toNat ≤ 0x18 ∧ statusName t b = n ∧
      ∀ c : Byte, statusName t c = n → c = b) ∧
    (∀ b : Byte, 0x18 < b.toNat → statusName t b = .unknown) ∧
    (∀ b : Byte, (∀ n, (b, n) ∉ t) → statusName t b = .unknown)

/-! ## HOST -/

/-- verify_password (44_host_sequences.md section 1), from its start (starts and turns are the model's,
logs 5 and 8): the command carries PWD; Ok is Authenticated, every other end AuthFailed. -/
def Obligations.VerifyPasswordSequence : Prop :=
  ∀ (s : State) (t : Word) (att : Nat) (rest : List Event),
    (s.eng = .idle → Starts (.verifyPassword t) (.verifyPassword t) .issue s) ∧
    (∀ a p : Word, s.seq = some ⟨.verifyPassword t, .issue, att⟩ → s.sched = .host .turn :: rest →
      s.eng = .idle → s.addr = some a → s.pwd = some p →
      step s = .next (commandSent (some (.verifyPassword p))
        (frameOf a 1 ([0x13] ++ bytesOf4 p.toNat))
        { s with sched := rest, opTimeout := t,
                 seq := some ⟨.verifyPassword t, .await, att⟩ })) ∧
    (AtOutcome (.verifyPassword t) att rest s →
      (Answered .ok s → step s = .next (returned .authenticated rest s)) ∧
      (¬ Answered .ok s → step s = .next (returned .authFailed rest s)))

/-- capture-with-retry (44_host_sequences.md section 2), from its start with ATT = 0 (starts, turns and
the wait of 0 ticks that is no wait are the model's, logs 5 and 8): each attempt sends capture-image and
counts in ATT; Ok is Captured; NoFingerDetected is retried after the delay with ATT kept, and is
CaptureTimeout at the tenth attempt; every other end is Failed with its cause. -/
def Obligations.CaptureWithRetry : Prop :=
  ∀ (s : State) (t : Word) (att : Nat) (rest : List Event),
    (s.eng = .idle → Starts (.captureWithRetry t) (.captureWithRetry t) .issue s) ∧
    (∀ a : Word, s.seq = some ⟨.captureWithRetry t, .issue, att⟩ → s.sched = .host .turn :: rest →
      s.eng = .idle → s.addr = some a →
      step s = .next (commandSent (some .captureImage) (frameOf a 1 [0x01])
        { s with sched := rest, opTimeout := t,
                 seq := some ⟨.captureWithRetry t, .await, att + 1⟩ })) ∧
    (AtOutcome (.captureWithRetry t) att rest s →
      (Answered .ok s → step s = .next (returned .captured rest s)) ∧
      (Answered .noFingerDetected s → att = 10 →
        step s = .next (returned .captureTimeout rest s)) ∧
      (Answered .noFingerDetected s → att ≠ 10 →
        step s = .next (moved ⟨.captureWithRetry t, pause s.cfg.nofingerDelay, att⟩ rest s)) ∧
      (∀ c, FailedWith c s → ¬ Answered .noFingerDetected s →
        step s = .next (returned (.failed c) rest s)))

/-- identify (44_host_sequences.md section 3): capture-with-retry, then image-to-template(slot=1), then search(slot=1, the
database range); CaptureTimeout, ProtocolError, NotFound and Matched as the rule says. The layout of
the match fields is PRESUMED (log 11). -/
def Obligations.IdentifySequence : Prop :=
  ∀ (s : State) (t : Word) (att : Nat) (rest : List Event),
    (s.eng = .idle → Starts (.identify t) (.identify t .capture) .issue s) ∧
    (AtOutcome (.identify t .capture) att rest s →
      (Answered .ok s → step s = .next (moved ⟨.identify t .convert, .issue, 0⟩ rest s)) ∧
      (Answered .noFingerDetected s → att = 10 →
        step s = .next (returned .captureTimeout rest s)) ∧
      (Answered .noFingerDetected s → att ≠ 10 →
        step s = .next (moved ⟨.identify t .capture, pause s.cfg.nofingerDelay, att⟩ rest s)) ∧
      (∀ c, FailedWith c s → ¬ Answered .noFingerDetected s →
        step s = .next (returned .protocolError rest s))) ∧
    (AtOutcome (.identify t .convert) att rest s →
      (Answered .ok s → step s = .next (moved ⟨.identify t .search, .issue, 0⟩ rest s)) ∧
      (¬ Answered .ok s → step s = .next (returned .protocolError rest s))) ∧
    (AtOutcome (.identify t .search) att rest s →
      (∀ (e0 e1 e2 e3 : Byte) (more : List Byte), Answered .ok s →
        s.extra = e0 :: e1 :: e2 :: e3 :: more →
        step s = .next (returned (.matched (BitVec.ofNat 16 (e0.toNat * 256 + e1.toNat))
          (BitVec.ofNat 16 (e2.toNat * 256 + e3.toNat))) rest s)) ∧
      (Answered .ok s → s.extra.length < 4 → step s = .next (returned .protocolError rest s)) ∧
      (∀ n, n ≠ .ok → Answered n s → step s = .next (returned .notFound rest s)) ∧
      (s.res = .timedOut ∨ s.res = .malformed →
        step s = .next (returned .protocolError rest s)))

/-- enroll and its outcomes (44_host_sequences.md section 4): the six phases in order, the lift pause after the first convert, PhaseFailed
with the phase and the cause, CaptureTimeout of either capture, Stored with HOST's own location. -/
def Obligations.EnrollSequence : Prop :=
  ∀ (s : State) (loc : Half) (t : Word) (att : Nat) (rest : List Event),
    (s.eng = .idle → Starts (.enroll loc t) (.enroll loc t .captureFirst) .issue s) ∧
    (∀ p next : EnrollPhase,
      ((p = .captureFirst ∧ next = .convertFirst) ∨
        (p = .captureSecond ∧ next = .convertSecond)) →
      AtOutcome (.enroll loc t p) att rest s →
      (Answered .ok s → step s = .next (moved ⟨.enroll loc t next, .issue, 0⟩ rest s)) ∧
      (Answered .noFingerDetected s → att = 10 →
        step s = .next (returned .captureTimeout rest s)) ∧
      (Answered .noFingerDetected s → att ≠ 10 →
        step s = .next (moved ⟨.enroll loc t p, pause s.cfg.nofingerDelay, att⟩ rest s)) ∧
      (∀ c, FailedWith c s → ¬ Answered .noFingerDetected s →
        step s = .next (returned (.phaseFailed p c) rest s))) ∧
    (∀ (p next : EnrollPhase) (act : Activity),
      ((p = .convertFirst ∧ next = .captureSecond ∧ act = pause s.cfg.liftDelay) ∨
        (p = .convertSecond ∧ next = .register ∧ act = .issue) ∨
        (p = .register ∧ next = .store ∧ act = .issue)) →
      AtOutcome (.enroll loc t p) att rest s →
      (Answered .ok s → step s = .next (moved ⟨.enroll loc t next, act, 0⟩ rest s)) ∧
      (∀ c, FailedWith c s → step s = .next (returned (.phaseFailed p c) rest s))) ∧
    (AtOutcome (.enroll loc t .store) att rest s →
      (Answered .ok s → step s = .next (returned (.stored loc) rest s)) ∧
      (∀ c, FailedWith c s → step s = .next (returned (.phaseFailed .store c) rest s)))

/-- discover (44_host_sequences.md section 5): from CLOSED, the candidates in list order, each with a new
transport (log 3) and a session of the parameters; the first that authenticates is returned open; a failed
one is closed first; the empty list is NoDeviceFound with no I/O, the block untouched. That this holds also
in a session that another operation opened meanwhile is the model's choice (log 8), as starts and turns
are. -/
def Obligations.DiscoverSequence : Prop :=
  (∀ s : State, s.eng = .closed → Starts .discover (.discover s.cfg.candidates) .attach s) ∧
  ∀ (s : State) (att : Nat) (rest : List Event), s.sched = .host .turn :: rest →
    (s.seq = some ⟨.discover [], .attach, att⟩ →
      step s = .next (returned .noDeviceFound rest s)) ∧
    (∀ (c : Candidate) (left : List Candidate), s.eng = .closed →
      s.seq = some ⟨.discover (c :: left), .attach, att⟩ →
      step s = .next
        { s with
          sched := rest
          parked := s.parked ++ [{ tcfg := s.tcfg, rxq := s.rxq, txlog := s.txlog }]
          tcfg := some
            { txPin := c.txPin, rxPin := c.rxPin, baud := c.baud,
              readTimeout := s.cfg.readTimeout }
          rxq := [], txlog := [],
          addr := some s.cfg.sessionAddr, pwd := some s.cfg.sessionPwd,
          rxbuf := [], tmo := 0, timer := 0,
          res := .none, mreason := .none, stRaw := 0, st := none, extra := [],
          rxAddr := 0, rxKind := 0, rxLen := 0, rxCsum := 0, calcCsum := 0, csumOk := false,
          eng := .idle, reply := .accepted,
          seq := some ⟨.discover left, .issue, 0⟩ }) ∧
    (∀ left : List Candidate, AtOutcome (.discover left) att rest s →
      (Answered .ok s → step s = .next (returned .session rest s)) ∧
      (¬ Answered .ok s → step s = .next (moved ⟨.discover left, .close, 0⟩ rest s))) ∧
    (∀ left : List Candidate, s.eng = .idle → s.seq = some ⟨.discover left, .close, att⟩ →
      step s = .next
        { s with
          sched := rest, addr := none, pwd := none, eng := .closed, reply := .accepted,
          seq := some ⟨.discover left, .attach, 0⟩ })

/-- What a sequence issues, phase by phase, and with which timeout: its own, unchanged, for every EXEC,
and VERIFY_TIMEOUT in discover; and it never issues an EXEC while ENG = WAIT (44_host_sequences.md
sections 1 to 6). -/
def Obligations.SequenceIssuesItsCommand : Prop :=
  ∀ (s : State) (k : Task) (att : Nat) (rest : List Event) (a pw : Word),
    s.sched = .host .turn :: rest → s.seq = some ⟨k, .issue, att⟩ →
    (s.eng = .wait → step s = .next { s with sched := rest }) ∧
    (s.eng = .idle → s.addr = some a → s.pwd = some pw →
      (∀ t, k = .identify t .convert →
        step s = .next (commandSent (some (.imageToTemplate 1)) (frameOf a 1 [0x02, 0x01])
          { s with sched := rest, opTimeout := t, seq := some ⟨k, .await, att⟩ })) ∧
      (∀ t, k = .identify t .search →
        step s = .next (commandSent (some (.search 1 s.cfg.dbRangeLow s.cfg.dbRangeHigh))
          (frameOf a 1 ([0x04, 0x01] ++ bytesOf2 s.cfg.dbRangeLow.toNat ++
            bytesOf2 s.cfg.dbRangeHigh.toNat))
          { s with sched := rest, opTimeout := t, seq := some ⟨k, .await, att⟩ })) ∧
      (∀ t, k = .identify t .capture →
        step s = .next (commandSent (some .captureImage) (frameOf a 1 [0x01])
          { s with sched := rest, opTimeout := t, seq := some ⟨k, .await, att + 1⟩ })) ∧
      (∀ loc t, (k = .enroll loc t .captureFirst ∨ k = .enroll loc t .captureSecond) →
        step s = .next (commandSent (some .captureImage) (frameOf a 1 [0x01])
          { s with sched := rest, opTimeout := t, seq := some ⟨k, .await, att + 1⟩ })) ∧
      (∀ loc t, k = .enroll loc t .convertFirst →
        step s = .next (commandSent (some (.imageToTemplate 1)) (frameOf a 1 [0x02, 0x01])
          { s with sched := rest, opTimeout := t, seq := some ⟨k, .await, att⟩ })) ∧
      (∀ loc t, k = .enroll loc t .convertSecond →
        step s = .next (commandSent (some (.imageToTemplate 2)) (frameOf a 1 [0x02, 0x02])
          { s with sched := rest, opTimeout := t, seq := some ⟨k, .await, att⟩ })) ∧
      (∀ loc t, k = .enroll loc t .register →
        step s = .next (commandSent (some .registerModel) (frameOf a 1 [0x05])
          { s with sched := rest, opTimeout := t, seq := some ⟨k, .await, att⟩ })) ∧
      (∀ loc t, k = .enroll loc t .store →
        step s = .next (commandSent (some (.storeModel 1 loc))
          (frameOf a 1 ([0x06, 0x01] ++ bytesOf2 loc.toNat))
          { s with sched := rest, opTimeout := t, seq := some ⟨k, .await, att⟩ })) ∧
      (∀ left, k = .discover left →
        step s = .next (commandSent (some (.verifyPassword pw))
          (frameOf a 1 ([0x13] ++ bytesOf4 pw.toNat))
          { s with sched := rest, opTimeout := s.cfg.verifyTimeout,
                   seq := some ⟨k, .await, att⟩ })))

/-- HOST's waits: a TICK counts a delay down, in any state of the block (in the same step as the block's
TIMER: log 19); HOST's turn during a delay, or while the outcome is not there, does nothing; and after a
CLOSE by another operation the outcome is not readable, so the turn is refused NotOpen (10_state.md
section 9), the position kept (log 8). -/
def Obligations.HostWaitsInTicks : Prop :=
  ∀ (s : State) (k : Task) (att n : Nat) (rest : List Event),
    (s.seq = some ⟨k, .delay n, att⟩ → s.sched = .tick :: rest →
      (s.eng ≠ .wait → step s = .next (moved ⟨k, pause (n - 1), att⟩ rest s)) ∧
      ∃ u, step s = .next u ∧ u.seq = some ⟨k, pause (n - 1), att⟩) ∧
    (s.seq = some ⟨k, .delay n, att⟩ → s.sched = .host .turn :: rest →
      step s = .next { s with sched := rest }) ∧
    (s.seq = some ⟨k, .await, att⟩ → s.res = .none → s.sched = .host .turn :: rest →
      step s = .next { s with sched := rest }) ∧
    (s.seq = some ⟨k, .await, att⟩ → s.res ≠ .none → s.eng = .closed →
      s.sched = .host .turn :: rest →
      step s = .next { s with sched := rest, reply := .refused .notOpen })

/-- Cancellation: between commands HOST drops the running sequence, nothing is returned and the block is
untouched; during a transaction it is refused (44_host_sequences.md section 4). The model's choice (log
8): the name Busy, the acceptance without a running sequence, and that discover too can be cancelled,
also in CLOSED between its candidates. -/
def Obligations.CancelBetweenCommands : Prop :=
  ∀ (s : State) (rest : List Event), s.sched = .host .cancel :: rest →
    (s.eng ≠ .wait → step s = .next { s with sched := rest, seq := none, reply := .accepted }) ∧
    (s.eng = .wait → step s = .next { s with sched := rest, reply := .refused .busy })

/-- The events a cycle presents, whichever they are, are taken in the order reset, HOST operation, RX,
TICK (60_exceptions.md section 3): so a HOST operation sees the state before the end of the transaction
(an EXEC is refused Busy), and where the RX step ends the transaction, RESPONSE or MALFORMED, the TICK
changes nothing in the block. The schedule and the read size of its RX entry are the model's (logs 1, 17),
HOST's records too (logs 5, 7). -/
def Obligations.CycleOrder : Prop :=
  (∀ (s : State) (c : Cycle) (rest : List Event), s.sched = .sameCycle c :: rest →
    step s = .next
      { s with
        sched := (if c.reset = true then [.reset] else []) ++ (c.op.map Event.host).toList
          ++ (c.rx.map Event.rx).toList ++ (if c.tick = true then [.tick] else []) ++ rest }) ∧
  (∀ (s : State) (p : List Byte) (w : Word) (r : Option Nat) (tick : Bool) (rest : List Event),
    s.sched = .sameCycle ⟨false, some (.exec p w), r, tick⟩ :: rest → s.eng = .wait →
    Host.Core.run core 2 s = .next
      { s with
        sched := (r.map Event.rx).toList ++ (if tick = true then [.tick] else []) ++ rest
        opTimeout := w, reply := .refused .busy }) ∧
  (∀ (s : State) (k : Nat) (rest : List Event),
    s.sched = .sameCycle ⟨false, none, some k, true⟩ :: rest → s.eng = .wait → s.rxq ≠ [] →
    (∀ (f : Frame) (b : Byte) (xs : List Byte),
      DECODE s.cfg.chkStrict (append s.rxbuf (s.rxq.take (min (max k 1) s.rxq.length))) =
        .frame f → f.payload = b :: xs →
      ∃ u : State, Host.Core.run core 3 s = .next u ∧ u.eng = .idle ∧ u.res = .response ∧
        u.stRaw = b ∧ u.extra = xs ∧ u.timer = s.timer ∧ u.sched = rest) ∧
    (∀ f : Frame,
      DECODE s.cfg.chkStrict (append s.rxbuf (s.rxq.take (min (max k 1) s.rxq.length))) =
        .frame f → f.payload = [] →
      ∃ u : State, Host.Core.run core 3 s = .next u ∧ u.eng = .idle ∧ u.res = .malformed ∧
        u.mreason = .emptyPayload ∧ u.timer = s.timer ∧ u.sched = rest) ∧
    (∀ (d : Defect) (r : MReason),
      DECODE s.cfg.chkStrict (append s.rxbuf (s.rxq.take (min (max k 1) s.rxq.length))) =
        .malformed d →
      ((d = .badMarker ∧ r = .badMarker) ∨ (d = .badLength ∧ r = .badLength) ∨
        (d = .badChecksum ∧ r = .badChecksum)) →
      ∃ u : State, Host.Core.run core 3 s = .next u ∧ u.eng = .idle ∧ u.res = .malformed ∧
        u.mreason = r ∧ u.timer = s.timer ∧ u.sched = rest))
end

