-- ==== Sys2Proof/Laws/State.lean ====
section
/-! SUPPORT. One lemma per field and update: what each named update of the state writes, and that it
leaves every other field. -/

namespace Sys2Proof.Machine

open Sys2Proof

/-! ## refuse -/

@[simp] theorem refuse_cfg (r : OpRefusal) (s : State) : (refuse r s).cfg = s.cfg := rfl
@[simp] theorem refuse_eng (r : OpRefusal) (s : State) : (refuse r s).eng = s.eng := rfl
@[simp] theorem refuse_addr (r : OpRefusal) (s : State) : (refuse r s).addr = s.addr := rfl
@[simp] theorem refuse_pwd (r : OpRefusal) (s : State) : (refuse r s).pwd = s.pwd := rfl
@[simp] theorem refuse_rxbuf (r : OpRefusal) (s : State) : (refuse r s).rxbuf = s.rxbuf := rfl
@[simp] theorem refuse_tmo (r : OpRefusal) (s : State) : (refuse r s).tmo = s.tmo := rfl
@[simp] theorem refuse_timer (r : OpRefusal) (s : State) : (refuse r s).timer = s.timer := rfl
@[simp] theorem refuse_res (r : OpRefusal) (s : State) : (refuse r s).res = s.res := rfl
@[simp] theorem refuse_mreason (r : OpRefusal) (s : State) : (refuse r s).mreason = s.mreason := rfl
@[simp] theorem refuse_stRaw (r : OpRefusal) (s : State) : (refuse r s).stRaw = s.stRaw := rfl
@[simp] theorem refuse_st (r : OpRefusal) (s : State) : (refuse r s).st = s.st := rfl
@[simp] theorem refuse_extra (r : OpRefusal) (s : State) : (refuse r s).extra = s.extra := rfl
@[simp] theorem refuse_rxAddr (r : OpRefusal) (s : State) : (refuse r s).rxAddr = s.rxAddr := rfl
@[simp] theorem refuse_rxKind (r : OpRefusal) (s : State) : (refuse r s).rxKind = s.rxKind := rfl
@[simp] theorem refuse_rxLen (r : OpRefusal) (s : State) : (refuse r s).rxLen = s.rxLen := rfl
@[simp] theorem refuse_rxCsum (r : OpRefusal) (s : State) : (refuse r s).rxCsum = s.rxCsum := rfl
@[simp] theorem refuse_calcCsum (r : OpRefusal) (s : State) :
    (refuse r s).calcCsum = s.calcCsum := rfl
@[simp] theorem refuse_csumOk (r : OpRefusal) (s : State) : (refuse r s).csumOk = s.csumOk := rfl
@[simp] theorem refuse_rxq (r : OpRefusal) (s : State) : (refuse r s).rxq = s.rxq := rfl
@[simp] theorem refuse_txlog (r : OpRefusal) (s : State) : (refuse r s).txlog = s.txlog := rfl
@[simp] theorem refuse_tcfg (r : OpRefusal) (s : State) : (refuse r s).tcfg = s.tcfg := rfl
@[simp] theorem refuse_parked (r : OpRefusal) (s : State) : (refuse r s).parked = s.parked := rfl
@[simp] theorem refuse_reply (r : OpRefusal) (s : State) : (refuse r s).reply = .refused r := rfl
@[simp] theorem refuse_lastCmd (r : OpRefusal) (s : State) : (refuse r s).lastCmd = s.lastCmd := rfl
@[simp] theorem refuse_seq (r : OpRefusal) (s : State) : (refuse r s).seq = s.seq := rfl
@[simp] theorem refuse_result (r : OpRefusal) (s : State) : (refuse r s).result = s.result := rfl
@[simp] theorem refuse_opTimeout (r : OpRefusal) (s : State) :
    (refuse r s).opTimeout = s.opTimeout := rfl
@[simp] theorem refuse_sched (r : OpRefusal) (s : State) : (refuse r s).sched = s.sched := rfl

/-! ## clearResults -/

@[simp] theorem clearResults_cfg (s : State) : (clearResults s).cfg = s.cfg := rfl
@[simp] theorem clearResults_eng (s : State) : (clearResults s).eng = s.eng := rfl
@[simp] theorem clearResults_addr (s : State) : (clearResults s).addr = s.addr := rfl
@[simp] theorem clearResults_pwd (s : State) : (clearResults s).pwd = s.pwd := rfl
@[simp] theorem clearResults_rxbuf (s : State) : (clearResults s).rxbuf = s.rxbuf := rfl
@[simp] theorem clearResults_tmo (s : State) : (clearResults s).tmo = s.tmo := rfl
@[simp] theorem clearResults_timer (s : State) : (clearResults s).timer = s.timer := rfl
@[simp] theorem clearResults_res (s : State) : (clearResults s).res = .none := rfl
@[simp] theorem clearResults_mreason (s : State) : (clearResults s).mreason = .none := rfl
@[simp] theorem clearResults_stRaw (s : State) : (clearResults s).stRaw = 0 := rfl
@[simp] theorem clearResults_st (s : State) : (clearResults s).st = none := rfl
@[simp] theorem clearResults_extra (s : State) : (clearResults s).extra = [] := rfl
@[simp] theorem clearResults_rxAddr (s : State) : (clearResults s).rxAddr = 0 := rfl
@[simp] theorem clearResults_rxKind (s : State) : (clearResults s).rxKind = 0 := rfl
@[simp] theorem clearResults_rxLen (s : State) : (clearResults s).rxLen = 0 := rfl
@[simp] theorem clearResults_rxCsum (s : State) : (clearResults s).rxCsum = 0 := rfl
@[simp] theorem clearResults_calcCsum (s : State) : (clearResults s).calcCsum = 0 := rfl
@[simp] theorem clearResults_csumOk (s : State) : (clearResults s).csumOk = false := rfl
@[simp] theorem clearResults_rxq (s : State) : (clearResults s).rxq = s.rxq := rfl
@[simp] theorem clearResults_txlog (s : State) : (clearResults s).txlog = s.txlog := rfl
@[simp] theorem clearResults_tcfg (s : State) : (clearResults s).tcfg = s.tcfg := rfl
@[simp] theorem clearResults_parked (s : State) : (clearResults s).parked = s.parked := rfl
@[simp] theorem clearResults_reply (s : State) : (clearResults s).reply = s.reply := rfl
@[simp] theorem clearResults_lastCmd (s : State) : (clearResults s).lastCmd = s.lastCmd := rfl
@[simp] theorem clearResults_seq (s : State) : (clearResults s).seq = s.seq := rfl
@[simp] theorem clearResults_result (s : State) : (clearResults s).result = s.result := rfl
@[simp] theorem clearResults_opTimeout (s : State) : (clearResults s).opTimeout = s.opTimeout := rfl
@[simp] theorem clearResults_sched (s : State) : (clearResults s).sched = s.sched := rfl

/-! ## tpFlush -/

@[simp] theorem tpFlush_cfg (s : State) : (tpFlush s).cfg = s.cfg := rfl
@[simp] theorem tpFlush_eng (s : State) : (tpFlush s).eng = s.eng := rfl
@[simp] theorem tpFlush_addr (s : State) : (tpFlush s).addr = s.addr := rfl
@[simp] theorem tpFlush_pwd (s : State) : (tpFlush s).pwd = s.pwd := rfl
@[simp] theorem tpFlush_rxbuf (s : State) : (tpFlush s).rxbuf = s.rxbuf := rfl
@[simp] theorem tpFlush_tmo (s : State) : (tpFlush s).tmo = s.tmo := rfl
@[simp] theorem tpFlush_timer (s : State) : (tpFlush s).timer = s.timer := rfl
@[simp] theorem tpFlush_res (s : State) : (tpFlush s).res = s.res := rfl
@[simp] theorem tpFlush_mreason (s : State) : (tpFlush s).mreason = s.mreason := rfl
@[simp] theorem tpFlush_stRaw (s : State) : (tpFlush s).stRaw = s.stRaw := rfl
@[simp] theorem tpFlush_st (s : State) : (tpFlush s).st = s.st := rfl
@[simp] theorem tpFlush_extra (s : State) : (tpFlush s).extra = s.extra := rfl
@[simp] theorem tpFlush_rxAddr (s : State) : (tpFlush s).rxAddr = s.rxAddr := rfl
@[simp] theorem tpFlush_rxKind (s : State) : (tpFlush s).rxKind = s.rxKind := rfl
@[simp] theorem tpFlush_rxLen (s : State) : (tpFlush s).rxLen = s.rxLen := rfl
@[simp] theorem tpFlush_rxCsum (s : State) : (tpFlush s).rxCsum = s.rxCsum := rfl
@[simp] theorem tpFlush_calcCsum (s : State) : (tpFlush s).calcCsum = s.calcCsum := rfl
@[simp] theorem tpFlush_csumOk (s : State) : (tpFlush s).csumOk = s.csumOk := rfl
@[simp] theorem tpFlush_rxq (s : State) : (tpFlush s).rxq = [] := rfl
@[simp] theorem tpFlush_txlog (s : State) : (tpFlush s).txlog = s.txlog := rfl
@[simp] theorem tpFlush_tcfg (s : State) : (tpFlush s).tcfg = s.tcfg := rfl
@[simp] theorem tpFlush_parked (s : State) : (tpFlush s).parked = s.parked := rfl
@[simp] theorem tpFlush_reply (s : State) : (tpFlush s).reply = s.reply := rfl
@[simp] theorem tpFlush_lastCmd (s : State) : (tpFlush s).lastCmd = s.lastCmd := rfl
@[simp] theorem tpFlush_seq (s : State) : (tpFlush s).seq = s.seq := rfl
@[simp] theorem tpFlush_result (s : State) : (tpFlush s).result = s.result := rfl
@[simp] theorem tpFlush_opTimeout (s : State) : (tpFlush s).opTimeout = s.opTimeout := rfl
@[simp] theorem tpFlush_sched (s : State) : (tpFlush s).sched = s.sched := rfl

/-! ## tpWrite -/

@[simp] theorem tpWrite_cfg (b : List Byte) (s : State) : (tpWrite b s).cfg = s.cfg := rfl
@[simp] theorem tpWrite_eng (b : List Byte) (s : State) : (tpWrite b s).eng = s.eng := rfl
@[simp] theorem tpWrite_addr (b : List Byte) (s : State) : (tpWrite b s).addr = s.addr := rfl
@[simp] theorem tpWrite_pwd (b : List Byte) (s : State) : (tpWrite b s).pwd = s.pwd := rfl
@[simp] theorem tpWrite_rxbuf (b : List Byte) (s : State) : (tpWrite b s).rxbuf = s.rxbuf := rfl
@[simp] theorem tpWrite_tmo (b : List Byte) (s : State) : (tpWrite b s).tmo = s.tmo := rfl
@[simp] theorem tpWrite_timer (b : List Byte) (s : State) : (tpWrite b s).timer = s.timer := rfl
@[simp] theorem tpWrite_res (b : List Byte) (s : State) : (tpWrite b s).res = s.res := rfl
@[simp] theorem tpWrite_mreason (b : List Byte) (s : State) :
    (tpWrite b s).mreason = s.mreason := rfl
@[simp] theorem tpWrite_stRaw (b : List Byte) (s : State) : (tpWrite b s).stRaw = s.stRaw := rfl
@[simp] theorem tpWrite_st (b : List Byte) (s : State) : (tpWrite b s).st = s.st := rfl
@[simp] theorem tpWrite_extra (b : List Byte) (s : State) : (tpWrite b s).extra = s.extra := rfl
@[simp] theorem tpWrite_rxAddr (b : List Byte) (s : State) : (tpWrite b s).rxAddr = s.rxAddr := rfl
@[simp] theorem tpWrite_rxKind (b : List Byte) (s : State) : (tpWrite b s).rxKind = s.rxKind := rfl
@[simp] theorem tpWrite_rxLen (b : List Byte) (s : State) : (tpWrite b s).rxLen = s.rxLen := rfl
@[simp] theorem tpWrite_rxCsum (b : List Byte) (s : State) : (tpWrite b s).rxCsum = s.rxCsum := rfl
@[simp] theorem tpWrite_calcCsum (b : List Byte) (s : State) :
    (tpWrite b s).calcCsum = s.calcCsum := rfl
@[simp] theorem tpWrite_csumOk (b : List Byte) (s : State) : (tpWrite b s).csumOk = s.csumOk := rfl
@[simp] theorem tpWrite_rxq (b : List Byte) (s : State) : (tpWrite b s).rxq = s.rxq := rfl
@[simp] theorem tpWrite_txlog (b : List Byte) (s : State) :
    (tpWrite b s).txlog = s.txlog ++ b := rfl
@[simp] theorem tpWrite_tcfg (b : List Byte) (s : State) : (tpWrite b s).tcfg = s.tcfg := rfl
@[simp] theorem tpWrite_parked (b : List Byte) (s : State) : (tpWrite b s).parked = s.parked := rfl
@[simp] theorem tpWrite_reply (b : List Byte) (s : State) : (tpWrite b s).reply = s.reply := rfl
@[simp] theorem tpWrite_lastCmd (b : List Byte) (s : State) :
    (tpWrite b s).lastCmd = s.lastCmd := rfl
@[simp] theorem tpWrite_seq (b : List Byte) (s : State) : (tpWrite b s).seq = s.seq := rfl
@[simp] theorem tpWrite_result (b : List Byte) (s : State) : (tpWrite b s).result = s.result := rfl
@[simp] theorem tpWrite_opTimeout (b : List Byte) (s : State) :
    (tpWrite b s).opTimeout = s.opTimeout := rfl
@[simp] theorem tpWrite_sched (b : List Byte) (s : State) : (tpWrite b s).sched = s.sched := rfl

/-! ## tpDropRead -/

@[simp] theorem tpDropRead_cfg (n : Nat) (s : State) : (tpDropRead n s).cfg = s.cfg := rfl
@[simp] theorem tpDropRead_eng (n : Nat) (s : State) : (tpDropRead n s).eng = s.eng := rfl
@[simp] theorem tpDropRead_addr (n : Nat) (s : State) : (tpDropRead n s).addr = s.addr := rfl
@[simp] theorem tpDropRead_pwd (n : Nat) (s : State) : (tpDropRead n s).pwd = s.pwd := rfl
@[simp] theorem tpDropRead_rxbuf (n : Nat) (s : State) : (tpDropRead n s).rxbuf = s.rxbuf := rfl
@[simp] theorem tpDropRead_tmo (n : Nat) (s : State) : (tpDropRead n s).tmo = s.tmo := rfl
@[simp] theorem tpDropRead_timer (n : Nat) (s : State) : (tpDropRead n s).timer = s.timer := rfl
@[simp] theorem tpDropRead_res (n : Nat) (s : State) : (tpDropRead n s).res = s.res := rfl
@[simp] theorem tpDropRead_mreason (n : Nat) (s : State) :
    (tpDropRead n s).mreason = s.mreason := rfl
@[simp] theorem tpDropRead_stRaw (n : Nat) (s : State) : (tpDropRead n s).stRaw = s.stRaw := rfl
@[simp] theorem tpDropRead_st (n : Nat) (s : State) : (tpDropRead n s).st = s.st := rfl
@[simp] theorem tpDropRead_extra (n : Nat) (s : State) : (tpDropRead n s).extra = s.extra := rfl
@[simp] theorem tpDropRead_rxAddr (n : Nat) (s : State) : (tpDropRead n s).rxAddr = s.rxAddr := rfl
@[simp] theorem tpDropRead_rxKind (n : Nat) (s : State) : (tpDropRead n s).rxKind = s.rxKind := rfl
@[simp] theorem tpDropRead_rxLen (n : Nat) (s : State) : (tpDropRead n s).rxLen = s.rxLen := rfl
@[simp] theorem tpDropRead_rxCsum (n : Nat) (s : State) : (tpDropRead n s).rxCsum = s.rxCsum := rfl
@[simp] theorem tpDropRead_calcCsum (n : Nat) (s : State) :
    (tpDropRead n s).calcCsum = s.calcCsum := rfl
@[simp] theorem tpDropRead_csumOk (n : Nat) (s : State) : (tpDropRead n s).csumOk = s.csumOk := rfl
@[simp] theorem tpDropRead_rxq (n : Nat) (s : State) : (tpDropRead n s).rxq = s.rxq.drop n := rfl
@[simp] theorem tpDropRead_txlog (n : Nat) (s : State) : (tpDropRead n s).txlog = s.txlog := rfl
@[simp] theorem tpDropRead_tcfg (n : Nat) (s : State) : (tpDropRead n s).tcfg = s.tcfg := rfl
@[simp] theorem tpDropRead_parked (n : Nat) (s : State) : (tpDropRead n s).parked = s.parked := rfl
@[simp] theorem tpDropRead_reply (n : Nat) (s : State) : (tpDropRead n s).reply = s.reply := rfl
@[simp] theorem tpDropRead_lastCmd (n : Nat) (s : State) :
    (tpDropRead n s).lastCmd = s.lastCmd := rfl
@[simp] theorem tpDropRead_seq (n : Nat) (s : State) : (tpDropRead n s).seq = s.seq := rfl
@[simp] theorem tpDropRead_result (n : Nat) (s : State) : (tpDropRead n s).result = s.result := rfl
@[simp] theorem tpDropRead_opTimeout (n : Nat) (s : State) :
    (tpDropRead n s).opTimeout = s.opTimeout := rfl
@[simp] theorem tpDropRead_sched (n : Nat) (s : State) : (tpDropRead n s).sched = s.sched := rfl

/-! ## endTransaction -/

@[simp] theorem endTransaction_cfg (o : Res) (r : MReason) (s : State) :
    (endTransaction o r s).cfg = s.cfg := rfl
@[simp] theorem endTransaction_eng (o : Res) (r : MReason) (s : State) :
    (endTransaction o r s).eng = .idle := rfl
@[simp] theorem endTransaction_addr (o : Res) (r : MReason) (s : State) :
    (endTransaction o r s).addr = s.addr := rfl
@[simp] theorem endTransaction_pwd (o : Res) (r : MReason) (s : State) :
    (endTransaction o r s).pwd = s.pwd := rfl
@[simp] theorem endTransaction_rxbuf (o : Res) (r : MReason) (s : State) :
    (endTransaction o r s).rxbuf = s.rxbuf := rfl
@[simp] theorem endTransaction_tmo (o : Res) (r : MReason) (s : State) :
    (endTransaction o r s).tmo = s.tmo := rfl
@[simp] theorem endTransaction_timer (o : Res) (r : MReason) (s : State) :
    (endTransaction o r s).timer = s.timer := rfl
@[simp] theorem endTransaction_res (o : Res) (r : MReason) (s : State) :
    (endTransaction o r s).res = o := rfl
@[simp] theorem endTransaction_mreason (o : Res) (r : MReason) (s : State) :
    (endTransaction o r s).mreason = r := rfl
@[simp] theorem endTransaction_stRaw (o : Res) (r : MReason) (s : State) :
    (endTransaction o r s).stRaw = s.stRaw := rfl
@[simp] theorem endTransaction_st (o : Res) (r : MReason) (s : State) :
    (endTransaction o r s).st = s.st := rfl
@[simp] theorem endTransaction_extra (o : Res) (r : MReason) (s : State) :
    (endTransaction o r s).extra = s.extra := rfl
@[simp] theorem endTransaction_rxAddr (o : Res) (r : MReason) (s : State) :
    (endTransaction o r s).rxAddr = s.rxAddr := rfl
@[simp] theorem endTransaction_rxKind (o : Res) (r : MReason) (s : State) :
    (endTransaction o r s).rxKind = s.rxKind := rfl
@[simp] theorem endTransaction_rxLen (o : Res) (r : MReason) (s : State) :
    (endTransaction o r s).rxLen = s.rxLen := rfl
@[simp] theorem endTransaction_rxCsum (o : Res) (r : MReason) (s : State) :
    (endTransaction o r s).rxCsum = s.rxCsum := rfl
@[simp] theorem endTransaction_calcCsum (o : Res) (r : MReason) (s : State) :
    (endTransaction o r s).calcCsum = s.calcCsum := rfl
@[simp] theorem endTransaction_csumOk (o : Res) (r : MReason) (s : State) :
    (endTransaction o r s).csumOk = s.csumOk := rfl
@[simp] theorem endTransaction_rxq (o : Res) (r : MReason) (s : State) :
    (endTransaction o r s).rxq = s.rxq := rfl
@[simp] theorem endTransaction_txlog (o : Res) (r : MReason) (s : State) :
    (endTransaction o r s).txlog = s.txlog := rfl
@[simp] theorem endTransaction_tcfg (o : Res) (r : MReason) (s : State) :
    (endTransaction o r s).tcfg = s.tcfg := rfl
@[simp] theorem endTransaction_parked (o : Res) (r : MReason) (s : State) :
    (endTransaction o r s).parked = s.parked := rfl
@[simp] theorem endTransaction_reply (o : Res) (r : MReason) (s : State) :
    (endTransaction o r s).reply = s.reply := rfl
@[simp] theorem endTransaction_lastCmd (o : Res) (r : MReason) (s : State) :
    (endTransaction o r s).lastCmd = s.lastCmd := rfl
@[simp] theorem endTransaction_seq (o : Res) (r : MReason) (s : State) :
    (endTransaction o r s).seq = s.seq := rfl
@[simp] theorem endTransaction_result (o : Res) (r : MReason) (s : State) :
    (endTransaction o r s).result = s.result := rfl
@[simp] theorem endTransaction_opTimeout (o : Res) (r : MReason) (s : State) :
    (endTransaction o r s).opTimeout = s.opTimeout := rfl
@[simp] theorem endTransaction_sched (o : Res) (r : MReason) (s : State) :
    (endTransaction o r s).sched = s.sched := rfl

/-! ## transmit -/

@[simp] theorem transmit_cfg (c : Option Instr) (p : List Byte) (a : Word) (s : State) :
    (transmit c p a s).cfg = s.cfg := rfl
@[simp] theorem transmit_eng (c : Option Instr) (p : List Byte) (a : Word) (s : State) :
    (transmit c p a s).eng = .wait := rfl
@[simp] theorem transmit_addr (c : Option Instr) (p : List Byte) (a : Word) (s : State) :
    (transmit c p a s).addr = s.addr := rfl
@[simp] theorem transmit_pwd (c : Option Instr) (p : List Byte) (a : Word) (s : State) :
    (transmit c p a s).pwd = s.pwd := rfl
@[simp] theorem transmit_rxbuf (c : Option Instr) (p : List Byte) (a : Word) (s : State) :
    (transmit c p a s).rxbuf = [] := rfl
@[simp] theorem transmit_tmo (c : Option Instr) (p : List Byte) (a : Word) (s : State) :
    (transmit c p a s).tmo = s.opTimeout := rfl
@[simp] theorem transmit_timer (c : Option Instr) (p : List Byte) (a : Word) (s : State) :
    (transmit c p a s).timer = 0 := rfl
@[simp] theorem transmit_res (c : Option Instr) (p : List Byte) (a : Word) (s : State) :
    (transmit c p a s).res = .none := rfl
@[simp] theorem transmit_mreason (c : Option Instr) (p : List Byte) (a : Word) (s : State) :
    (transmit c p a s).mreason = .none := rfl
@[simp] theorem transmit_stRaw (c : Option Instr) (p : List Byte) (a : Word) (s : State) :
    (transmit c p a s).stRaw = 0 := rfl
@[simp] theorem transmit_st (c : Option Instr) (p : List Byte) (a : Word) (s : State) :
    (transmit c p a s).st = none := rfl
@[simp] theorem transmit_extra (c : Option Instr) (p : List Byte) (a : Word) (s : State) :
    (transmit c p a s).extra = [] := rfl
@[simp] theorem transmit_rxAddr (c : Option Instr) (p : List Byte) (a : Word) (s : State) :
    (transmit c p a s).rxAddr = 0 := rfl
@[simp] theorem transmit_rxKind (c : Option Instr) (p : List Byte) (a : Word) (s : State) :
    (transmit c p a s).rxKind = 0 := rfl
@[simp] theorem transmit_rxLen (c : Option Instr) (p : List Byte) (a : Word) (s : State) :
    (transmit c p a s).rxLen = 0 := rfl
@[simp] theorem transmit_rxCsum (c : Option Instr) (p : List Byte) (a : Word) (s : State) :
    (transmit c p a s).rxCsum = 0 := rfl
@[simp] theorem transmit_calcCsum (c : Option Instr) (p : List Byte) (a : Word) (s : State) :
    (transmit c p a s).calcCsum = 0 := rfl
@[simp] theorem transmit_csumOk (c : Option Instr) (p : List Byte) (a : Word) (s : State) :
    (transmit c p a s).csumOk = false := rfl
@[simp] theorem transmit_rxq (c : Option Instr) (p : List Byte) (a : Word) (s : State) :
    (transmit c p a s).rxq = [] := rfl
@[simp] theorem transmit_txlog (c : Option Instr) (p : List Byte) (a : Word) (s : State) :
    (transmit c p a s).txlog = s.txlog ++ frameBytes a .command p := rfl
@[simp] theorem transmit_tcfg (c : Option Instr) (p : List Byte) (a : Word) (s : State) :
    (transmit c p a s).tcfg = s.tcfg := rfl
@[simp] theorem transmit_parked (c : Option Instr) (p : List Byte) (a : Word) (s : State) :
    (transmit c p a s).parked = s.parked := rfl
@[simp] theorem transmit_reply (c : Option Instr) (p : List Byte) (a : Word) (s : State) :
    (transmit c p a s).reply = .accepted := rfl
@[simp] theorem transmit_lastCmd (c : Option Instr) (p : List Byte) (a : Word) (s : State) :
    (transmit c p a s).lastCmd = c := rfl
@[simp] theorem transmit_seq (c : Option Instr) (p : List Byte) (a : Word) (s : State) :
    (transmit c p a s).seq = s.seq := rfl
@[simp] theorem transmit_result (c : Option Instr) (p : List Byte) (a : Word) (s : State) :
    (transmit c p a s).result = s.result := rfl
@[simp] theorem transmit_opTimeout (c : Option Instr) (p : List Byte) (a : Word) (s : State) :
    (transmit c p a s).opTimeout = s.opTimeout := rfl
@[simp] theorem transmit_sched (c : Option Instr) (p : List Byte) (a : Word) (s : State) :
    (transmit c p a s).sched = s.sched := rfl

/-! ## openEffect -/

@[simp] theorem openEffect_cfg (a p : Word) (s : State) : (openEffect a p s).cfg = s.cfg := rfl
@[simp] theorem openEffect_eng (a p : Word) (s : State) : (openEffect a p s).eng = .idle := rfl
@[simp] theorem openEffect_addr (a p : Word) (s : State) : (openEffect a p s).addr = some a := rfl
@[simp] theorem openEffect_pwd (a p : Word) (s : State) : (openEffect a p s).pwd = some p := rfl
@[simp] theorem openEffect_rxbuf (a p : Word) (s : State) : (openEffect a p s).rxbuf = [] := rfl
@[simp] theorem openEffect_tmo (a p : Word) (s : State) : (openEffect a p s).tmo = 0 := rfl
@[simp] theorem openEffect_timer (a p : Word) (s : State) : (openEffect a p s).timer = 0 := rfl
@[simp] theorem openEffect_res (a p : Word) (s : State) : (openEffect a p s).res = .none := rfl
@[simp] theorem openEffect_mreason (a p : Word) (s : State) :
    (openEffect a p s).mreason = .none := rfl
@[simp] theorem openEffect_stRaw (a p : Word) (s : State) : (openEffect a p s).stRaw = 0 := rfl
@[simp] theorem openEffect_st (a p : Word) (s : State) : (openEffect a p s).st = none := rfl
@[simp] theorem openEffect_extra (a p : Word) (s : State) : (openEffect a p s).extra = [] := rfl
@[simp] theorem openEffect_rxAddr (a p : Word) (s : State) : (openEffect a p s).rxAddr = 0 := rfl
@[simp] theorem openEffect_rxKind (a p : Word) (s : State) : (openEffect a p s).rxKind = 0 := rfl
@[simp] theorem openEffect_rxLen (a p : Word) (s : State) : (openEffect a p s).rxLen = 0 := rfl
@[simp] theorem openEffect_rxCsum (a p : Word) (s : State) : (openEffect a p s).rxCsum = 0 := rfl
@[simp] theorem openEffect_calcCsum (a p : Word) (s : State) :
    (openEffect a p s).calcCsum = 0 := rfl
@[simp] theorem openEffect_csumOk (a p : Word) (s : State) :
    (openEffect a p s).csumOk = false := rfl
@[simp] theorem openEffect_rxq (a p : Word) (s : State) : (openEffect a p s).rxq = s.rxq := rfl
@[simp] theorem openEffect_txlog (a p : Word) (s : State) :
    (openEffect a p s).txlog = s.txlog := rfl
@[simp] theorem openEffect_tcfg (a p : Word) (s : State) : (openEffect a p s).tcfg = s.tcfg := rfl
@[simp] theorem openEffect_parked (a p : Word) (s : State) :
    (openEffect a p s).parked = s.parked := rfl
@[simp] theorem openEffect_reply (a p : Word) (s : State) :
    (openEffect a p s).reply = .accepted := rfl
@[simp] theorem openEffect_lastCmd (a p : Word) (s : State) :
    (openEffect a p s).lastCmd = s.lastCmd := rfl
@[simp] theorem openEffect_seq (a p : Word) (s : State) : (openEffect a p s).seq = s.seq := rfl
@[simp] theorem openEffect_result (a p : Word) (s : State) :
    (openEffect a p s).result = s.result := rfl
@[simp] theorem openEffect_opTimeout (a p : Word) (s : State) :
    (openEffect a p s).opTimeout = s.opTimeout := rfl
@[simp] theorem openEffect_sched (a p : Word) (s : State) :
    (openEffect a p s).sched = s.sched := rfl

/-! ## attachTransport -/

@[simp] theorem attachTransport_cfg (c : TransportConfig) (s : State) :
    (attachTransport c s).cfg = s.cfg := rfl
@[simp] theorem attachTransport_eng (c : TransportConfig) (s : State) :
    (attachTransport c s).eng = s.eng := rfl
@[simp] theorem attachTransport_addr (c : TransportConfig) (s : State) :
    (attachTransport c s).addr = s.addr := rfl
@[simp] theorem attachTransport_pwd (c : TransportConfig) (s : State) :
    (attachTransport c s).pwd = s.pwd := rfl
@[simp] theorem attachTransport_rxbuf (c : TransportConfig) (s : State) :
    (attachTransport c s).rxbuf = s.rxbuf := rfl
@[simp] theorem attachTransport_tmo (c : TransportConfig) (s : State) :
    (attachTransport c s).tmo = s.tmo := rfl
@[simp] theorem attachTransport_timer (c : TransportConfig) (s : State) :
    (attachTransport c s).timer = s.timer := rfl
@[simp] theorem attachTransport_res (c : TransportConfig) (s : State) :
    (attachTransport c s).res = s.res := rfl
@[simp] theorem attachTransport_mreason (c : TransportConfig) (s : State) :
    (attachTransport c s).mreason = s.mreason := rfl
@[simp] theorem attachTransport_stRaw (c : TransportConfig) (s : State) :
    (attachTransport c s).stRaw = s.stRaw := rfl
@[simp] theorem attachTransport_st (c : TransportConfig) (s : State) :
    (attachTransport c s).st = s.st := rfl
@[simp] theorem attachTransport_extra (c : TransportConfig) (s : State) :
    (attachTransport c s).extra = s.extra := rfl
@[simp] theorem attachTransport_rxAddr (c : TransportConfig) (s : State) :
    (attachTransport c s).rxAddr = s.rxAddr := rfl
@[simp] theorem attachTransport_rxKind (c : TransportConfig) (s : State) :
    (attachTransport c s).rxKind = s.rxKind := rfl
@[simp] theorem attachTransport_rxLen (c : TransportConfig) (s : State) :
    (attachTransport c s).rxLen = s.rxLen := rfl
@[simp] theorem attachTransport_rxCsum (c : TransportConfig) (s : State) :
    (attachTransport c s).rxCsum = s.rxCsum := rfl
@[simp] theorem attachTransport_calcCsum (c : TransportConfig) (s : State) :
    (attachTransport c s).calcCsum = s.calcCsum := rfl
@[simp] theorem attachTransport_csumOk (c : TransportConfig) (s : State) :
    (attachTransport c s).csumOk = s.csumOk := rfl
@[simp] theorem attachTransport_rxq (c : TransportConfig) (s : State) :
    (attachTransport c s).rxq = [] := rfl
@[simp] theorem attachTransport_txlog (c : TransportConfig) (s : State) :
    (attachTransport c s).txlog = [] := rfl
@[simp] theorem attachTransport_tcfg (c : TransportConfig) (s : State) :
    (attachTransport c s).tcfg = some c := rfl
@[simp] theorem attachTransport_parked (c : TransportConfig) (s : State) :
    (attachTransport c s).parked = s.parked ++ [{ tcfg := s.tcfg, rxq := s.rxq, txlog := s.txlog }] := rfl
@[simp] theorem attachTransport_reply (c : TransportConfig) (s : State) :
    (attachTransport c s).reply = s.reply := rfl
@[simp] theorem attachTransport_lastCmd (c : TransportConfig) (s : State) :
    (attachTransport c s).lastCmd = s.lastCmd := rfl
@[simp] theorem attachTransport_seq (c : TransportConfig) (s : State) :
    (attachTransport c s).seq = s.seq := rfl
@[simp] theorem attachTransport_result (c : TransportConfig) (s : State) :
    (attachTransport c s).result = s.result := rfl
@[simp] theorem attachTransport_opTimeout (c : TransportConfig) (s : State) :
    (attachTransport c s).opTimeout = s.opTimeout := rfl
@[simp] theorem attachTransport_sched (c : TransportConfig) (s : State) :
    (attachTransport c s).sched = s.sched := rfl

/-! ## goto -/

@[simp] theorem goto_cfg (k : Task) (x : Activity) (s : State) : (goto k x s).cfg = s.cfg := rfl
@[simp] theorem goto_eng (k : Task) (x : Activity) (s : State) : (goto k x s).eng = s.eng := rfl
@[simp] theorem goto_addr (k : Task) (x : Activity) (s : State) : (goto k x s).addr = s.addr := rfl
@[simp] theorem goto_pwd (k : Task) (x : Activity) (s : State) : (goto k x s).pwd = s.pwd := rfl
@[simp] theorem goto_rxbuf (k : Task) (x : Activity) (s : State) :
    (goto k x s).rxbuf = s.rxbuf := rfl
@[simp] theorem goto_tmo (k : Task) (x : Activity) (s : State) : (goto k x s).tmo = s.tmo := rfl
@[simp] theorem goto_timer (k : Task) (x : Activity) (s : State) :
    (goto k x s).timer = s.timer := rfl
@[simp] theorem goto_res (k : Task) (x : Activity) (s : State) : (goto k x s).res = s.res := rfl
@[simp] theorem goto_mreason (k : Task) (x : Activity) (s : State) :
    (goto k x s).mreason = s.mreason := rfl
@[simp] theorem goto_stRaw (k : Task) (x : Activity) (s : State) :
    (goto k x s).stRaw = s.stRaw := rfl
@[simp] theorem goto_st (k : Task) (x : Activity) (s : State) : (goto k x s).st = s.st := rfl
@[simp] theorem goto_extra (k : Task) (x : Activity) (s : State) :
    (goto k x s).extra = s.extra := rfl
@[simp] theorem goto_rxAddr (k : Task) (x : Activity) (s : State) :
    (goto k x s).rxAddr = s.rxAddr := rfl
@[simp] theorem goto_rxKind (k : Task) (x : Activity) (s : State) :
    (goto k x s).rxKind = s.rxKind := rfl
@[simp] theorem goto_rxLen (k : Task) (x : Activity) (s : State) :
    (goto k x s).rxLen = s.rxLen := rfl
@[simp] theorem goto_rxCsum (k : Task) (x : Activity) (s : State) :
    (goto k x s).rxCsum = s.rxCsum := rfl
@[simp] theorem goto_calcCsum (k : Task) (x : Activity) (s : State) :
    (goto k x s).calcCsum = s.calcCsum := rfl
@[simp] theorem goto_csumOk (k : Task) (x : Activity) (s : State) :
    (goto k x s).csumOk = s.csumOk := rfl
@[simp] theorem goto_rxq (k : Task) (x : Activity) (s : State) : (goto k x s).rxq = s.rxq := rfl
@[simp] theorem goto_txlog (k : Task) (x : Activity) (s : State) :
    (goto k x s).txlog = s.txlog := rfl
@[simp] theorem goto_tcfg (k : Task) (x : Activity) (s : State) : (goto k x s).tcfg = s.tcfg := rfl
@[simp] theorem goto_parked (k : Task) (x : Activity) (s : State) :
    (goto k x s).parked = s.parked := rfl
@[simp] theorem goto_reply (k : Task) (x : Activity) (s : State) :
    (goto k x s).reply = s.reply := rfl
@[simp] theorem goto_lastCmd (k : Task) (x : Activity) (s : State) :
    (goto k x s).lastCmd = s.lastCmd := rfl
@[simp] theorem goto_seq (k : Task) (x : Activity) (s : State) :
    (goto k x s).seq = some { task := k, act := x, att := 0 } := rfl
@[simp] theorem goto_result (k : Task) (x : Activity) (s : State) :
    (goto k x s).result = s.result := rfl
@[simp] theorem goto_opTimeout (k : Task) (x : Activity) (s : State) :
    (goto k x s).opTimeout = s.opTimeout := rfl
@[simp] theorem goto_sched (k : Task) (x : Activity) (s : State) :
    (goto k x s).sched = s.sched := rfl

/-! ## finish -/

@[simp] theorem finish_cfg (r : SeqResult) (s : State) : (finish r s).cfg = s.cfg := rfl
@[simp] theorem finish_eng (r : SeqResult) (s : State) : (finish r s).eng = s.eng := rfl
@[simp] theorem finish_addr (r : SeqResult) (s : State) : (finish r s).addr = s.addr := rfl
@[simp] theorem finish_pwd (r : SeqResult) (s : State) : (finish r s).pwd = s.pwd := rfl
@[simp] theorem finish_rxbuf (r : SeqResult) (s : State) : (finish r s).rxbuf = s.rxbuf := rfl
@[simp] theorem finish_tmo (r : SeqResult) (s : State) : (finish r s).tmo = s.tmo := rfl
@[simp] theorem finish_timer (r : SeqResult) (s : State) : (finish r s).timer = s.timer := rfl
@[simp] theorem finish_res (r : SeqResult) (s : State) : (finish r s).res = s.res := rfl
@[simp] theorem finish_mreason (r : SeqResult) (s : State) : (finish r s).mreason = s.mreason := rfl
@[simp] theorem finish_stRaw (r : SeqResult) (s : State) : (finish r s).stRaw = s.stRaw := rfl
@[simp] theorem finish_st (r : SeqResult) (s : State) : (finish r s).st = s.st := rfl
@[simp] theorem finish_extra (r : SeqResult) (s : State) : (finish r s).extra = s.extra := rfl
@[simp] theorem finish_rxAddr (r : SeqResult) (s : State) : (finish r s).rxAddr = s.rxAddr := rfl
@[simp] theorem finish_rxKind (r : SeqResult) (s : State) : (finish r s).rxKind = s.rxKind := rfl
@[simp] theorem finish_rxLen (r : SeqResult) (s : State) : (finish r s).rxLen = s.rxLen := rfl
@[simp] theorem finish_rxCsum (r : SeqResult) (s : State) : (finish r s).rxCsum = s.rxCsum := rfl
@[simp] theorem finish_calcCsum (r : SeqResult) (s : State) :
    (finish r s).calcCsum = s.calcCsum := rfl
@[simp] theorem finish_csumOk (r : SeqResult) (s : State) : (finish r s).csumOk = s.csumOk := rfl
@[simp] theorem finish_rxq (r : SeqResult) (s : State) : (finish r s).rxq = s.rxq := rfl
@[simp] theorem finish_txlog (r : SeqResult) (s : State) : (finish r s).txlog = s.txlog := rfl
@[simp] theorem finish_tcfg (r : SeqResult) (s : State) : (finish r s).tcfg = s.tcfg := rfl
@[simp] theorem finish_parked (r : SeqResult) (s : State) : (finish r s).parked = s.parked := rfl
@[simp] theorem finish_reply (r : SeqResult) (s : State) : (finish r s).reply = s.reply := rfl
@[simp] theorem finish_lastCmd (r : SeqResult) (s : State) : (finish r s).lastCmd = s.lastCmd := rfl
@[simp] theorem finish_seq (r : SeqResult) (s : State) : (finish r s).seq = none := rfl
@[simp] theorem finish_result (r : SeqResult) (s : State) : (finish r s).result = some r := rfl
@[simp] theorem finish_opTimeout (r : SeqResult) (s : State) :
    (finish r s).opTimeout = s.opTimeout := rfl
@[simp] theorem finish_sched (r : SeqResult) (s : State) : (finish r s).sched = s.sched := rfl

/-! ## deviceSends -/

@[simp] theorem deviceSends_cfg (b : List Byte) (s : State) : (deviceSends b s).cfg = s.cfg := rfl
@[simp] theorem deviceSends_eng (b : List Byte) (s : State) : (deviceSends b s).eng = s.eng := rfl
@[simp] theorem deviceSends_addr (b : List Byte) (s : State) :
    (deviceSends b s).addr = s.addr := rfl
@[simp] theorem deviceSends_pwd (b : List Byte) (s : State) : (deviceSends b s).pwd = s.pwd := rfl
@[simp] theorem deviceSends_rxbuf (b : List Byte) (s : State) :
    (deviceSends b s).rxbuf = s.rxbuf := rfl
@[simp] theorem deviceSends_tmo (b : List Byte) (s : State) : (deviceSends b s).tmo = s.tmo := rfl
@[simp] theorem deviceSends_timer (b : List Byte) (s : State) :
    (deviceSends b s).timer = s.timer := rfl
@[simp] theorem deviceSends_res (b : List Byte) (s : State) : (deviceSends b s).res = s.res := rfl
@[simp] theorem deviceSends_mreason (b : List Byte) (s : State) :
    (deviceSends b s).mreason = s.mreason := rfl
@[simp] theorem deviceSends_stRaw (b : List Byte) (s : State) :
    (deviceSends b s).stRaw = s.stRaw := rfl
@[simp] theorem deviceSends_st (b : List Byte) (s : State) : (deviceSends b s).st = s.st := rfl
@[simp] theorem deviceSends_extra (b : List Byte) (s : State) :
    (deviceSends b s).extra = s.extra := rfl
@[simp] theorem deviceSends_rxAddr (b : List Byte) (s : State) :
    (deviceSends b s).rxAddr = s.rxAddr := rfl
@[simp] theorem deviceSends_rxKind (b : List Byte) (s : State) :
    (deviceSends b s).rxKind = s.rxKind := rfl
@[simp] theorem deviceSends_rxLen (b : List Byte) (s : State) :
    (deviceSends b s).rxLen = s.rxLen := rfl
@[simp] theorem deviceSends_rxCsum (b : List Byte) (s : State) :
    (deviceSends b s).rxCsum = s.rxCsum := rfl
@[simp] theorem deviceSends_calcCsum (b : List Byte) (s : State) :
    (deviceSends b s).calcCsum = s.calcCsum := rfl
@[simp] theorem deviceSends_csumOk (b : List Byte) (s : State) :
    (deviceSends b s).csumOk = s.csumOk := rfl
@[simp] theorem deviceSends_rxq (b : List Byte) (s : State) :
    (deviceSends b s).rxq = s.rxq ++ b := rfl
@[simp] theorem deviceSends_txlog (b : List Byte) (s : State) :
    (deviceSends b s).txlog = s.txlog := rfl
@[simp] theorem deviceSends_tcfg (b : List Byte) (s : State) :
    (deviceSends b s).tcfg = s.tcfg := rfl
@[simp] theorem deviceSends_parked (b : List Byte) (s : State) :
    (deviceSends b s).parked = s.parked := rfl
@[simp] theorem deviceSends_reply (b : List Byte) (s : State) :
    (deviceSends b s).reply = s.reply := rfl
@[simp] theorem deviceSends_lastCmd (b : List Byte) (s : State) :
    (deviceSends b s).lastCmd = s.lastCmd := rfl
@[simp] theorem deviceSends_seq (b : List Byte) (s : State) : (deviceSends b s).seq = s.seq := rfl
@[simp] theorem deviceSends_result (b : List Byte) (s : State) :
    (deviceSends b s).result = s.result := rfl
@[simp] theorem deviceSends_opTimeout (b : List Byte) (s : State) :
    (deviceSends b s).opTimeout = s.opTimeout := rfl
@[simp] theorem deviceSends_sched (b : List Byte) (s : State) :
    (deviceSends b s).sched = s.sched := rfl

/-! ## resetBlock -/

@[simp] theorem resetBlock_cfg (s : State) : (resetBlock s).cfg = s.cfg := rfl
@[simp] theorem resetBlock_eng (s : State) : (resetBlock s).eng = .closed := rfl
@[simp] theorem resetBlock_addr (s : State) : (resetBlock s).addr = none := rfl
@[simp] theorem resetBlock_pwd (s : State) : (resetBlock s).pwd = none := rfl
@[simp] theorem resetBlock_rxbuf (s : State) : (resetBlock s).rxbuf = [] := rfl
@[simp] theorem resetBlock_tmo (s : State) : (resetBlock s).tmo = 0 := rfl
@[simp] theorem resetBlock_timer (s : State) : (resetBlock s).timer = 0 := rfl
@[simp] theorem resetBlock_res (s : State) : (resetBlock s).res = .none := rfl
@[simp] theorem resetBlock_mreason (s : State) : (resetBlock s).mreason = .none := rfl
@[simp] theorem resetBlock_stRaw (s : State) : (resetBlock s).stRaw = 0 := rfl
@[simp] theorem resetBlock_st (s : State) : (resetBlock s).st = none := rfl
@[simp] theorem resetBlock_extra (s : State) : (resetBlock s).extra = [] := rfl
@[simp] theorem resetBlock_rxAddr (s : State) : (resetBlock s).rxAddr = 0 := rfl
@[simp] theorem resetBlock_rxKind (s : State) : (resetBlock s).rxKind = 0 := rfl
@[simp] theorem resetBlock_rxLen (s : State) : (resetBlock s).rxLen = 0 := rfl
@[simp] theorem resetBlock_rxCsum (s : State) : (resetBlock s).rxCsum = 0 := rfl
@[simp] theorem resetBlock_calcCsum (s : State) : (resetBlock s).calcCsum = 0 := rfl
@[simp] theorem resetBlock_csumOk (s : State) : (resetBlock s).csumOk = false := rfl
@[simp] theorem resetBlock_rxq (s : State) : (resetBlock s).rxq = s.rxq := rfl
@[simp] theorem resetBlock_txlog (s : State) : (resetBlock s).txlog = s.txlog := rfl
@[simp] theorem resetBlock_tcfg (s : State) : (resetBlock s).tcfg = s.tcfg := rfl
@[simp] theorem resetBlock_parked (s : State) : (resetBlock s).parked = s.parked := rfl
@[simp] theorem resetBlock_reply (s : State) : (resetBlock s).reply = s.reply := rfl
@[simp] theorem resetBlock_lastCmd (s : State) : (resetBlock s).lastCmd = s.lastCmd := rfl
@[simp] theorem resetBlock_seq (s : State) : (resetBlock s).seq = s.seq := rfl
@[simp] theorem resetBlock_result (s : State) : (resetBlock s).result = s.result := rfl
@[simp] theorem resetBlock_opTimeout (s : State) : (resetBlock s).opTimeout = s.opTimeout := rfl
@[simp] theorem resetBlock_sched (s : State) : (resetBlock s).sched = s.sched := rfl

/-! ## withTimeout -/

@[simp] theorem withTimeout_cfg (t : Word) (s : State) : (withTimeout t s).cfg = s.cfg := rfl
@[simp] theorem withTimeout_eng (t : Word) (s : State) : (withTimeout t s).eng = s.eng := rfl
@[simp] theorem withTimeout_addr (t : Word) (s : State) : (withTimeout t s).addr = s.addr := rfl
@[simp] theorem withTimeout_pwd (t : Word) (s : State) : (withTimeout t s).pwd = s.pwd := rfl
@[simp] theorem withTimeout_rxbuf (t : Word) (s : State) : (withTimeout t s).rxbuf = s.rxbuf := rfl
@[simp] theorem withTimeout_tmo (t : Word) (s : State) : (withTimeout t s).tmo = s.tmo := rfl
@[simp] theorem withTimeout_timer (t : Word) (s : State) : (withTimeout t s).timer = s.timer := rfl
@[simp] theorem withTimeout_res (t : Word) (s : State) : (withTimeout t s).res = s.res := rfl
@[simp] theorem withTimeout_mreason (t : Word) (s : State) : (withTimeout t s).mreason = s.mreason := rfl
@[simp] theorem withTimeout_stRaw (t : Word) (s : State) : (withTimeout t s).stRaw = s.stRaw := rfl
@[simp] theorem withTimeout_st (t : Word) (s : State) : (withTimeout t s).st = s.st := rfl
@[simp] theorem withTimeout_extra (t : Word) (s : State) : (withTimeout t s).extra = s.extra := rfl
@[simp] theorem withTimeout_rxAddr (t : Word) (s : State) : (withTimeout t s).rxAddr = s.rxAddr := rfl
@[simp] theorem withTimeout_rxKind (t : Word) (s : State) : (withTimeout t s).rxKind = s.rxKind := rfl
@[simp] theorem withTimeout_rxLen (t : Word) (s : State) : (withTimeout t s).rxLen = s.rxLen := rfl
@[simp] theorem withTimeout_rxCsum (t : Word) (s : State) : (withTimeout t s).rxCsum = s.rxCsum := rfl
@[simp] theorem withTimeout_calcCsum (t : Word) (s : State) : (withTimeout t s).calcCsum = s.calcCsum := rfl
@[simp] theorem withTimeout_csumOk (t : Word) (s : State) : (withTimeout t s).csumOk = s.csumOk := rfl
@[simp] theorem withTimeout_rxq (t : Word) (s : State) : (withTimeout t s).rxq = s.rxq := rfl
@[simp] theorem withTimeout_txlog (t : Word) (s : State) : (withTimeout t s).txlog = s.txlog := rfl
@[simp] theorem withTimeout_tcfg (t : Word) (s : State) : (withTimeout t s).tcfg = s.tcfg := rfl
@[simp] theorem withTimeout_parked (t : Word) (s : State) : (withTimeout t s).parked = s.parked := rfl
@[simp] theorem withTimeout_reply (t : Word) (s : State) : (withTimeout t s).reply = s.reply := rfl
@[simp] theorem withTimeout_lastCmd (t : Word) (s : State) : (withTimeout t s).lastCmd = s.lastCmd := rfl
@[simp] theorem withTimeout_seq (t : Word) (s : State) : (withTimeout t s).seq = s.seq := rfl
@[simp] theorem withTimeout_result (t : Word) (s : State) : (withTimeout t s).result = s.result := rfl
@[simp] theorem withTimeout_opTimeout (t : Word) (s : State) : (withTimeout t s).opTimeout = t := rfl
@[simp] theorem withTimeout_sched (t : Word) (s : State) : (withTimeout t s).sched = s.sched := rfl

/-! ## withSched -/

@[simp] theorem withSched_cfg (r : List Event) (s : State) : (withSched r s).cfg = s.cfg := rfl
@[simp] theorem withSched_eng (r : List Event) (s : State) : (withSched r s).eng = s.eng := rfl
@[simp] theorem withSched_addr (r : List Event) (s : State) : (withSched r s).addr = s.addr := rfl
@[simp] theorem withSched_pwd (r : List Event) (s : State) : (withSched r s).pwd = s.pwd := rfl
@[simp] theorem withSched_rxbuf (r : List Event) (s : State) : (withSched r s).rxbuf = s.rxbuf := rfl
@[simp] theorem withSched_tmo (r : List Event) (s : State) : (withSched r s).tmo = s.tmo := rfl
@[simp] theorem withSched_timer (r : List Event) (s : State) : (withSched r s).timer = s.timer := rfl
@[simp] theorem withSched_res (r : List Event) (s : State) : (withSched r s).res = s.res := rfl
@[simp] theorem withSched_mreason (r : List Event) (s : State) : (withSched r s).mreason = s.mreason := rfl
@[simp] theorem withSched_stRaw (r : List Event) (s : State) : (withSched r s).stRaw = s.stRaw := rfl
@[simp] theorem withSched_st (r : List Event) (s : State) : (withSched r s).st = s.st := rfl
@[simp] theorem withSched_extra (r : List Event) (s : State) : (withSched r s).extra = s.extra := rfl
@[simp] theorem withSched_rxAddr (r : List Event) (s : State) : (withSched r s).rxAddr = s.rxAddr := rfl
@[simp] theorem withSched_rxKind (r : List Event) (s : State) : (withSched r s).rxKind = s.rxKind := rfl
@[simp] theorem withSched_rxLen (r : List Event) (s : State) : (withSched r s).rxLen = s.rxLen := rfl
@[simp] theorem withSched_rxCsum (r : List Event) (s : State) : (withSched r s).rxCsum = s.rxCsum := rfl
@[simp] theorem withSched_calcCsum (r : List Event) (s : State) : (withSched r s).calcCsum = s.calcCsum := rfl
@[simp] theorem withSched_csumOk (r : List Event) (s : State) : (withSched r s).csumOk = s.csumOk := rfl
@[simp] theorem withSched_rxq (r : List Event) (s : State) : (withSched r s).rxq = s.rxq := rfl
@[simp] theorem withSched_txlog (r : List Event) (s : State) : (withSched r s).txlog = s.txlog := rfl
@[simp] theorem withSched_tcfg (r : List Event) (s : State) : (withSched r s).tcfg = s.tcfg := rfl
@[simp] theorem withSched_parked (r : List Event) (s : State) : (withSched r s).parked = s.parked := rfl
@[simp] theorem withSched_reply (r : List Event) (s : State) : (withSched r s).reply = s.reply := rfl
@[simp] theorem withSched_lastCmd (r : List Event) (s : State) : (withSched r s).lastCmd = s.lastCmd := rfl
@[simp] theorem withSched_seq (r : List Event) (s : State) : (withSched r s).seq = s.seq := rfl
@[simp] theorem withSched_result (r : List Event) (s : State) : (withSched r s).result = s.result := rfl
@[simp] theorem withSched_opTimeout (r : List Event) (s : State) : (withSched r s).opTimeout = s.opTimeout := rfl
@[simp] theorem withSched_sched (r : List Event) (s : State) : (withSched r s).sched = r := rfl

end Sys2Proof.Machine
end

