-- ==== Sys2Proof/Laws/Codec.lean ====
section
/-! SUPPORT. Lemmas of the byte-order helpers, the frame image and DECODE. -/

namespace Sys2Proof

/-- The two bytes of `be16` as numbers. -/
theorem be16_eq_ofNat (v : Half) :
    be16 v = [BitVec.ofNat 8 (v.toNat / 256), BitVec.ofNat 8 v.toNat] := by
  simp only [be16, List.cons.injEq, and_true]
  constructor <;> apply BitVec.eq_of_toNat_eq <;>
    simp [BitVec.extractLsb', Nat.shiftRight_eq_div_pow]

/-- The four bytes of `be32` as numbers. -/
theorem be32_eq_ofNat (v : Word) :
    be32 v = [BitVec.ofNat 8 (v.toNat / 2 ^ 24), BitVec.ofNat 8 (v.toNat / 2 ^ 16),
      BitVec.ofNat 8 (v.toNat / 256), BitVec.ofNat 8 v.toNat] := by
  simp only [be32, List.cons.injEq, and_true]
  refine ⟨?_, ?_, ?_, ?_⟩ <;> apply BitVec.eq_of_toNat_eq <;>
    simp [BitVec.extractLsb', Nat.shiftRight_eq_div_pow]

@[simp] theorem be16_length (v : Half) : (be16 v).length = 2 := rfl

@[simp] theorem be32_length (v : Word) : (be32 v).length = 4 := rfl

/-- The number two bytes spell, the high one first. -/
theorem u16_toNat (hi lo : Byte) : (u16 hi lo).toNat = hi.toNat * 256 + lo.toNat := by
  have h := lo.isLt
  simp only [u16, BitVec.toNat_append]
  rw [← Nat.shiftLeft_add_eq_or_of_lt h, Nat.shiftLeft_eq]

/-- The number four bytes spell, the highest first. -/
theorem u32_toNat (b3 b2 b1 b0 : Byte) :
    (u32 b3 b2 b1 b0).toNat =
      ((b3.toNat * 256 + b2.toNat) * 256 + b1.toNat) * 256 + b0.toNat := by
  have h0 := b0.isLt
  have h1 := b1.isLt
  have h2 := b2.isLt
  simp only [u32, BitVec.toNat_append]
  rw [← Nat.shiftLeft_add_eq_or_of_lt h0, ← Nat.shiftLeft_add_eq_or_of_lt h1,
    ← Nat.shiftLeft_add_eq_or_of_lt h2]
  simp [Nat.shiftLeft_eq]

/-- Reading the two bytes of a number back gives the number. -/
theorem u16_of_be16 (v : Half) : u16 (v.extractLsb' 8 8) (v.extractLsb' 0 8) = v := by
  apply BitVec.eq_of_toNat_eq
  have h := v.isLt
  rw [u16_toNat]
  simp [BitVec.extractLsb', Nat.shiftRight_eq_div_pow]
  omega

/-- Reading the four bytes of a number back gives the number. -/
theorem u32_of_be32 (v : Word) :
    u32 (v.extractLsb' 24 8) (v.extractLsb' 16 8) (v.extractLsb' 8 8) (v.extractLsb' 0 8) = v := by
  apply BitVec.eq_of_toNat_eq
  have h := v.isLt
  rw [u32_toNat]
  simp [BitVec.extractLsb', Nat.shiftRight_eq_div_pow]
  omega

/-- Spelling the number of two bytes gives the two bytes. -/
theorem be16_u16 (hi lo : Byte) : be16 (u16 hi lo) = [hi, lo] := by
  have h1 := hi.isLt
  have h0 := lo.isLt
  rw [be16_eq_ofNat, u16_toNat]
  simp only [List.cons.injEq, and_true]
  constructor <;> apply BitVec.eq_of_toNat_eq <;> simp only [BitVec.toNat_ofNat] <;> omega

/-- Spelling the number of four bytes gives the four bytes. -/
theorem be32_u32 (b3 b2 b1 b0 : Byte) : be32 (u32 b3 b2 b1 b0) = [b3, b2, b1, b0] := by
  have h3 := b3.isLt
  have h2 := b2.isLt
  have h1 := b1.isLt
  have h0 := b0.isLt
  rw [be32_eq_ofNat, u32_toNat]
  simp only [List.cons.injEq, and_true]
  refine ⟨?_, ?_, ?_, ?_⟩ <;> apply BitVec.eq_of_toNat_eq <;>
    simp only [BitVec.toNat_ofNat] <;> omega

namespace Machine

/-- The length of a frame is 11 + n (R90). -/
theorem frameBytes_length (a : Word) (k : Kind) (p : List Byte) :
    (frameBytes a k p).length = 11 + p.length := by
  simp [frameBytes]; omega

/-- The nine header bytes of a frame, then the payload and the checksum. -/
theorem frameBytes_eq_header (a : Word) (k : Kind) (p : List Byte) :
    frameBytes a k p =
      0xEF :: 0x01 :: a.extractLsb' 24 8 :: a.extractLsb' 16 8 :: a.extractLsb' 8 8
        :: a.extractLsb' 0 8 :: kindCode k
        :: (BitVec.ofNat 16 (p.length + 2)).extractLsb' 8 8
        :: (BitVec.ofNat 16 (p.length + 2)).extractLsb' 0 8
        :: (p ++ be16 (frameCsum (kindCode k) (BitVec.ofNat 16 (p.length + 2)) p)) := by
  simp [frameBytes, be16, be32]

/-- ENCODE of an accepted payload (R133). -/
theorem ENCODE_of_le (a : Word) (k : Kind) {p : List Byte} (h : p.length ≤ MAX_PAYLOAD) :
    ENCODE a k p = some (frameBytes a k p) := by
  simp [ENCODE, Nat.not_lt.mpr h]

/-- ENCODE refuses a longer payload (R135). -/
theorem ENCODE_of_gt (a : Word) (k : Kind) {p : List Byte} (h : MAX_PAYLOAD < p.length) :
    ENCODE a k p = none := by
  simp [ENCODE, h]

/-- A byte below the length of a prefix is the prefix's (R161's reason). -/
theorem byteAt_append_left {b : Memory} {i : Nat} (t : List Byte) (h : i < b.length) :
    byteAt (b ++ t) i = byteAt b i := by
  simp [byteAt, List.getD_eq_getElem?_getD, List.getElem?_append_left h]

/-- A 16-bit read inside a prefix is the prefix's. -/
theorem u16At_append_left {b : Memory} {i : Nat} (t : List Byte) (h : i + 1 < b.length) :
    u16At (b ++ t) i = u16At b i := by
  rw [u16At, u16At, byteAt_append_left t (by omega), byteAt_append_left t h]

/-- A 32-bit read inside a prefix is the prefix's. -/
theorem u32At_append_left {b : Memory} {i : Nat} (t : List Byte) (h : i + 3 < b.length) :
    u32At (b ++ t) i = u32At b i := by
  rw [u32At, u32At, byteAt_append_left t (by omega), byteAt_append_left t (by omega),
    byteAt_append_left t (by omega), byteAt_append_left t h]

/-- A slice inside a prefix is the prefix's. -/
theorem slice_append_left {b : Memory} {i j : Nat} (t : List Byte) (h : j ≤ b.length) :
    slice (b ++ t) i j = slice b i j := by
  by_cases hi : i ≤ b.length
  · rw [slice, slice, List.drop_append_of_le_length hi, List.take_append_of_le_length]
    simp; omega
  · have h0 : j - i = 0 := by omega
    simp [slice, h0]

/-- The length of a slice inside the buffer. -/
theorem slice_length {b : Memory} {i j : Nat} (h : j ≤ b.length) : (slice b i j).length = j - i := by
  simp [slice]; omega

/-- What DECODE can answer, with the condition of each answer (R150). -/
theorem DECODE_cases (strict : Bool) (b : Memory) :
    (b.length < MIN_DECODE ∧ DECODE strict b = .needMoreData) ∨
    (MIN_DECODE ≤ b.length ∧ (byteAt b 0 ≠ 0xEF ∨ byteAt b 1 ≠ 0x01) ∧
      DECODE strict b = .malformed .badMarker) ∨
    (MIN_DECODE ≤ b.length ∧ byteAt b 0 = 0xEF ∧ byteAt b 1 = 0x01 ∧ (u16At b 7).toNat < 2 ∧
      DECODE strict b = .malformed .badLength) ∨
    (MIN_DECODE ≤ b.length ∧ byteAt b 0 = 0xEF ∧ byteAt b 1 = 0x01 ∧ 2 ≤ (u16At b 7).toNat ∧
      b.length < HDR_LEN + (u16At b 7).toNat ∧ DECODE strict b = .needMoreData) ∨
    (MIN_DECODE ≤ b.length ∧ byteAt b 0 = 0xEF ∧ byteAt b 1 = 0x01 ∧ 2 ≤ (u16At b 7).toNat ∧
      HDR_LEN + (u16At b 7).toNat ≤ b.length ∧ strict = true ∧
      (extractFrame b (u16At b 7)).csumOk = false ∧ DECODE strict b = .malformed .badChecksum) ∨
    (MIN_DECODE ≤ b.length ∧ byteAt b 0 = 0xEF ∧ byteAt b 1 = 0x01 ∧ 2 ≤ (u16At b 7).toNat ∧
      HDR_LEN + (u16At b 7).toNat ≤ b.length ∧
      (strict = true → (extractFrame b (u16At b 7)).csumOk = true) ∧
      DECODE strict b = .frame (extractFrame b (u16At b 7))) := by
  by_cases h1 : b.length < MIN_DECODE
  · exact .inl ⟨h1, by rw [DECODE, if_pos h1]⟩
  have g1 := Nat.le_of_not_lt h1
  by_cases h2 : byteAt b 0 ≠ 0xEF ∨ byteAt b 1 ≠ 0x01
  · exact .inr (.inl ⟨g1, h2, by rw [DECODE, if_neg h1, if_pos h2]⟩)
  obtain ⟨m0, m1⟩ : byteAt b 0 = 0xEF ∧ byteAt b 1 = 0x01 := by
    simpa only [not_or, not_not] using h2
  by_cases h3 : (u16At b 7).toNat < 2
  · exact .inr (.inr (.inl ⟨g1, m0, m1, h3, by rw [DECODE, if_neg h1, if_neg h2, if_pos h3]⟩))
  have g3 := Nat.le_of_not_lt h3
  by_cases h4 : b.length < HDR_LEN + (u16At b 7).toNat
  · exact .inr (.inr (.inr (.inl ⟨g1, m0, m1, g3, h4, by
      rw [DECODE, if_neg h1, if_neg h2, if_neg h3, if_pos h4]⟩)))
  have g4 := Nat.le_of_not_lt h4
  by_cases h5 : strict = true ∧ (extractFrame b (u16At b 7)).csumOk = false
  · exact .inr (.inr (.inr (.inr (.inl ⟨g1, m0, m1, g3, g4, h5.1, h5.2, by
      rw [DECODE, if_neg h1, if_neg h2, if_neg h3, if_neg h4, if_pos h5]⟩))))
  · refine .inr (.inr (.inr (.inr (.inr ⟨g1, m0, m1, g3, g4, fun hs => ?_, by
      rw [DECODE, if_neg h1, if_neg h2, if_neg h3, if_neg h4, if_neg h5]⟩))))
    cases hc : (extractFrame b (u16At b 7)).csumOk
    · exact absurd ⟨hs, hc⟩ h5
    · rfl

/-- A Frame verdict is the extraction at the declared length, which is at least 2 and present, and
under the strict parameter its checksum matched (R155, R158). -/
theorem DECODE_frame {strict : Bool} {b : Memory} {f : Frame} (h : DECODE strict b = .frame f) :
    f = extractFrame b (u16At b 7) ∧ MIN_DECODE ≤ b.length ∧ byteAt b 0 = 0xEF ∧
      byteAt b 1 = 0x01 ∧ 2 ≤ (u16At b 7).toNat ∧ HDR_LEN + (u16At b 7).toNat ≤ b.length ∧
      (strict = true → f.csumOk = true) := by
  obtain ⟨_, e⟩ | ⟨_, _, e⟩ | ⟨_, _, _, _, e⟩ | ⟨_, _, _, _, _, e⟩ | ⟨_, _, _, _, _, _, _, e⟩ |
    ⟨g1, m0, m1, g3, g4, hs, e⟩ := DECODE_cases strict b <;> rw [e] at h <;> cases h
  exact ⟨rfl, g1, m0, m1, g3, g4, hs⟩

/-- The payload of an extracted frame has L - 2 bytes (R155). -/
theorem extractFrame_payload_length {b : Memory} {len : Half}
    (h : HDR_LEN + len.toNat ≤ b.length) : (extractFrame b len).payload.length = len.toNat - 2 := by
  rw [extractFrame, slice_length (by omega)]
  simp only [HDR_LEN] at *
  omega

/-- Extraction reads nothing above the frame (R156). -/
theorem extractFrame_append_left {b : Memory} {len : Half} (t : List Byte)
    (h12 : MIN_DECODE ≤ b.length) (h2 : 2 ≤ len.toNat) (h : HDR_LEN + len.toNat ≤ b.length) :
    extractFrame (b ++ t) len = extractFrame b len := by
  have e1 : HDR_LEN + len.toNat - 2 ≤ b.length := by omega
  have e2 : HDR_LEN + len.toNat - 2 + 1 < b.length := by simp only [HDR_LEN] at *; omega
  have e3 : 8 < b.length := by simp only [MIN_DECODE] at h12; omega
  simp only [extractFrame, slice_append_left t e1, u16At_append_left t e2,
    u32At_append_left t (show 2 + 3 < b.length by omega),
    byteAt_append_left t (show 6 < b.length by omega),
    byteAt_append_left t (show 7 < b.length by omega), byteAt_append_left t e3]

/-- The bytes appended are the ones that fit (R66). -/
theorem append_length (b : Memory) (s : List Byte) :
    (append b s).length = b.length + min (RX_CAP - b.length) s.length := by
  simp [append]

/-- Appending keeps RXBUF within its capacity (R26). -/
theorem append_wf {b : Memory} (s : List Byte) (h : Memory.wf b) : Memory.wf (append b s) := by
  simp only [Memory.wf] at *
  rw [append_length]
  omega

/-- Where there is room, all bytes are appended (R66). -/
theorem append_of_room {b : Memory} {s : List Byte} (h : b.length + s.length ≤ RX_CAP) :
    append b s = b ++ s := by
  rw [append, List.take_of_length_le (by omega)]

/-- The empty RXBUF of reset and of EXEC is within its capacity. -/
theorem memory_wf_nil : Memory.wf [] := by simp [Memory.wf]

/-- RXBUF at reset is within its capacity. -/
theorem reset_memory_wf : Memory.wf State.reset.rxbuf := memory_wf_nil

theorem cellsFrom_index_ge {n : Nat} {m : Memory} {c : Host.Cell} (h : c ∈ Memory.cellsFrom n m) :
    n ≤ c.1 := by
  induction m generalizing n with
  | nil => simp [Memory.cellsFrom] at h
  | cons b m ih =>
    simp only [Memory.cellsFrom, List.mem_cons] at h
    rcases h with rfl | h
    · exact Nat.le_refl _
    · have := ih h; omega

/-- The (index, byte) pairs of a byte space have strictly rising indices: the canonical form of a
dense space. -/
theorem cellsFrom_strictly_rising (n : Nat) (m : Memory) :
    (Memory.cellsFrom n m).Pairwise (fun c d => c.1 < d.1) := by
  induction m generalizing n with
  | nil => exact List.Pairwise.nil
  | cons b m ih =>
    refine List.Pairwise.cons (fun d hd => ?_) (ih (n + 1))
    have := cellsFrom_index_ge hd
    omega

end Machine

end Sys2Proof
end

