-- ==== Sys2Proof/Laws/Ops.lean ====
section
/-! SUPPORT. What each shared operation can do, said once: EXEC and the nine commands, OPEN, CLOSE,
attach, register reads, RX, TICK, HOST's turns and the step. Proofs about the machine cite these. -/

namespace Sys2Proof.Machine

open Sys2Proof

/-! ## EXEC and the commands -/

/-- Everything EXEC can do (R183, R184). -/
theorem execPayload_cases (cmd : Option Instr) (p : List Byte) (s : State) :
    (s.eng = .closed ∧ execPayload cmd p s = .next (refuse .notOpen s)) ∨
    (s.eng = .wait ∧ execPayload cmd p s = .next (refuse .busy s)) ∨
    (s.eng = .idle ∧ (p.length < 1 ∨ p.length > MAX_PAYLOAD) ∧
      execPayload cmd p s = .next (refuse .badPayloadLength s)) ∨
    (∃ a, s.eng = .idle ∧ 1 ≤ p.length ∧ p.length ≤ MAX_PAYLOAD ∧ s.addr = some a ∧
      execPayload cmd p s = .next (transmit cmd p a s)) ∨
    (s.eng = .idle ∧ 1 ≤ p.length ∧ p.length ≤ MAX_PAYLOAD ∧ s.addr = none ∧
      execPayload cmd p s = .fault .addrNoValue) := by
  unfold execPayload
  cases he : s.eng with
  | closed => exact .inl ⟨rfl, rfl⟩
  | wait => exact .inr (.inl ⟨rfl, rfl⟩)
  | idle =>
    by_cases hl : p.length < 1 ∨ p.length > MAX_PAYLOAD
    · exact .inr (.inr (.inl ⟨rfl, hl, by simp only [if_pos hl]⟩))
    · cases ha : s.addr with
      | none =>
        exact .inr (.inr (.inr (.inr ⟨rfl, by omega, by omega, rfl, by simp only [if_neg hl]⟩)))
      | some a =>
        exact .inr (.inr (.inr (.inl ⟨a, rfl, by omega, by omega, rfl, by simp only [if_neg hl]⟩)))

/-- In CLOSED every EXEC is refused NotOpen (R183). -/
theorem execPayload_closed {cmd : Option Instr} {p : List Byte} {s : State} (h : s.eng = .closed) :
    execPayload cmd p s = .next (refuse .notOpen s) := by
  simp [execPayload, h]

/-- In WAIT every EXEC is refused Busy (R183). -/
theorem execPayload_wait {cmd : Option Instr} {p : List Byte} {s : State} (h : s.eng = .wait) :
    execPayload cmd p s = .next (refuse .busy s) := by
  simp [execPayload, h]

/-- In IDLE an EXEC of a payload of legal length is accepted (R183, R184). -/
theorem execPayload_idle {cmd : Option Instr} {p : List Byte} {s : State} {a : Word}
    (h : s.eng = .idle) (ha : s.addr = some a) (h1 : 1 ≤ p.length) (h2 : p.length ≤ MAX_PAYLOAD) :
    execPayload cmd p s = .next (transmit cmd p a s) := by
  have hl : ¬(p.length < 1 ∨ p.length > MAX_PAYLOAD) := by omega
  simp only [execPayload, h, ha, if_neg hl]

/-- Every command is EXEC of its encoding (R220a). -/
theorem exec_eq_execPayload (i : Instr) (s : State) :
    exec i s = execPayload (some i) (encode i) s := by
  cases i <;> rfl

/-- The payload of a command has 1 to 6 bytes (R220c). -/
theorem encode_length (i : Instr) : 1 ≤ (encode i).length ∧ (encode i).length ≤ 6 := by
  cases i <;> simp [encode]

/-- No command is refused for its payload length (R220c). -/
theorem encode_length_le_max (i : Instr) : (encode i).length ≤ MAX_PAYLOAD := by
  have := (encode_length i).2
  simp only [MAX_PAYLOAD]
  omega

/-- Everything a command can do. -/
theorem exec_cases (i : Instr) (s : State) :
    (s.eng = .closed ∧ exec i s = .next (refuse .notOpen s)) ∨
    (s.eng = .wait ∧ exec i s = .next (refuse .busy s)) ∨
    (∃ a, s.eng = .idle ∧ s.addr = some a ∧ exec i s = .next (transmit (some i) (encode i) a s)) ∨
    (s.eng = .idle ∧ s.addr = none ∧ exec i s = .fault .addrNoValue) := by
  have h1 := (encode_length i).1
  have h2 := encode_length_le_max i
  rw [exec_eq_execPayload]
  obtain ⟨he, e⟩ | ⟨he, e⟩ | ⟨_, hl, _⟩ | ⟨a, he, _, _, ha, e⟩ | ⟨he, _, _, ha, e⟩ :=
    execPayload_cases (some i) (encode i) s
  · exact .inl ⟨he, e⟩
  · exact .inr (.inl ⟨he, e⟩)
  · omega
  · exact .inr (.inr (.inl ⟨a, he, ha, e⟩))
  · exact .inr (.inr (.inr ⟨he, ha, e⟩))

/-- HOST's EXEC of a payload is the shared EXEC, with the command the payload spells, if any. -/
theorem execOp_cases (p : List Byte) (t : Word) (s : State) :
    (∃ i, decode p = .instr i ∧ execOp p t s = exec i (withTimeout t s)) ∨
    (∃ r, decode p = .reject r ∧ execOp p t s = execPayload none p (withTimeout t s)) := by
  unfold execOp
  cases hd : decode p with
  | instr i => exact .inl ⟨i, rfl, rfl⟩
  | reject r => exact .inr ⟨r, rfl, rfl⟩

/-! ## Session operations -/

/-- Everything OPEN can do (R181). -/
theorem openOp_cases (a p : Word) (s : State) :
    (s.eng = .closed ∧ openOp a p s = openEffect a p s) ∨
    (s.eng ≠ .closed ∧ openOp a p s = refuse .alreadyOpen s) := by
  unfold openOp
  cases s.eng <;> simp

/-- Everything CLOSE can do (R182). -/
theorem closeOp_cases (s : State) :
    (s.eng = .closed ∧ closeOp s = refuse .notOpen s) ∨
    (s.eng = .wait ∧ closeOp s = refuse .busy s) ∨
    (s.eng = .idle ∧
      closeOp s = { s with addr := none, pwd := none, eng := .closed, reply := .accepted }) := by
  unfold closeOp
  cases s.eng <;> simp

/-- Everything the attachment to a transport can do. -/
theorem attachOp_cases (c : TransportConfig) (s : State) :
    (s.eng = .closed ∧ attachOp c s = { attachTransport c s with reply := .accepted }) ∨
    (s.eng ≠ .closed ∧ attachOp c s = refuse .alreadyOpen s) := by
  unfold attachOp
  cases s.eng <;> simp

/-- A register read changes HOST's reply only (R192). -/
theorem readReg_eq (r : Reg) (s : State) :
    readReg r s = { s with reply := (readReg r s).reply } := by
  unfold readReg
  split <;> rfl

/-- Reading an outcome changes HOST's reply only (R192). -/
theorem readOutcomeOp_eq (s : State) :
    readOutcomeOp s = { s with reply := (readOutcomeOp s).reply } := by
  unfold readOutcomeOp
  split
  · rfl
  · split <;> rfl

/-- ENCODE used alone changes HOST's reply only. -/
theorem encodeOp_eq (a : Word) (k : Kind) (p : List Byte) (s : State) :
    encodeOp a k p s = { s with reply := (encodeOp a k p s).reply } := by
  unfold encodeOp
  split <;> rfl

/-! ## ENGINE and CLOCK -/

/-- The read size is 1 to n (R64). -/
theorem readCount_bounds (k : Nat) {n : Nat} (h : 0 < n) : 1 ≤ readCount k n ∧ readCount k n ≤ n := by
  simp only [readCount]
  omega

/-- Every read size from 1 to n is possible (R64). -/
theorem readCount_of_mem {k n : Nat} (h1 : 1 ≤ k) (h2 : k ≤ n) : readCount k n = k := by
  simp only [readCount]
  omega

/-- The RX step is enabled exactly in WAIT with a byte to read (R185). -/
theorem rxEnabled_iff (s : State) : rxEnabled s = true ↔ s.eng = .wait ∧ s.rxq ≠ [] := by
  simp [rxEnabled]

/-- A step of RX that is not enabled changes nothing (R185). -/
theorem rxStep_of_not_enabled {k : Nat} {s : State} (h : ¬(s.eng = .wait ∧ s.rxq ≠ [])) :
    rxStep k s = s := by
  rw [rxStep, if_neg (by rwa [rxEnabled_iff])]

/-- The state of RX after the read and the append, before the verdict (R185). -/
def afterRead (k : Nat) (s : State) : State :=
  { s with
    rxq := s.rxq.drop (readCount k s.rxq.length)
    rxbuf := append s.rxbuf (s.rxq.take (readCount k s.rxq.length)) }

/-- An enabled RX step appends what was read and settles the verdict (R185). -/
theorem rxStep_of_enabled {k : Nat} {s : State} (h : s.eng = .wait ∧ s.rxq ≠ []) :
    rxStep k s =
      settleVerdict (DECODE s.cfg.chkStrict (afterRead k s).rxbuf) (afterRead k s) := by
  rw [rxStep, if_pos ((rxEnabled_iff s).mpr h)]
  rfl

/-- Everything a verdict can do to the state (R185 to R188). -/
theorem settleVerdict_cases (v : Verdict) (s : State) :
    (v = .needMoreData ∧ settleVerdict v s = s) ∨
    (∃ d, v = .malformed d ∧ settleVerdict v s = endTransaction .malformed d.reason s) ∨
    (∃ f, v = .frame f ∧ f.payload = [] ∧
      settleVerdict v s = endTransaction .malformed .emptyPayload
        { s with rxAddr := f.addr, rxKind := f.kind, rxLen := f.len,
                 rxCsum := f.rxCsum, calcCsum := f.calcCsum, csumOk := f.csumOk }) ∨
    (∃ f b rest, v = .frame f ∧ f.payload = b :: rest ∧
      settleVerdict v s = endTransaction .response .none
        { s with rxAddr := f.addr, rxKind := f.kind, rxLen := f.len,
                 rxCsum := f.rxCsum, calcCsum := f.calcCsum, csumOk := f.csumOk,
                 stRaw := b, st := some (statusName s.cfg.statusTable b), extra := rest }) := by
  cases v with
  | needMoreData => exact .inl ⟨rfl, rfl⟩
  | malformed d => exact .inr (.inl ⟨d, rfl, rfl⟩)
  | frame f =>
    cases hp : f.payload with
    | nil => exact .inr (.inr (.inl ⟨f, rfl, hp, by simp [settleVerdict, acceptFrame, hp]⟩))
    | cons b rest =>
      exact .inr (.inr (.inr ⟨f, b, rest, rfl, hp, by simp [settleVerdict, acceptFrame, hp]⟩))

/-- Everything TICK does in the block (R189). -/
theorem tickBlock_cases (s : State) :
    (s.eng ≠ .wait ∧ tickBlock s = s) ∨
    (s.eng = .wait ∧ s.tmo ≤ s.timer + 1 ∧
      tickBlock s = endTransaction .timedOut .none { s with timer := s.timer + 1 }) ∨
    (s.eng = .wait ∧ ¬ s.tmo ≤ s.timer + 1 ∧ tickBlock s = { s with timer := s.timer + 1 }) := by
  unfold tickBlock
  cases he : s.eng with
  | closed => exact .inl ⟨by simp, rfl⟩
  | idle => exact .inl ⟨by simp, rfl⟩
  | wait =>
    by_cases ht : s.tmo ≤ s.timer + 1
    · exact .inr (.inl ⟨rfl, ht, by simp only [if_pos ht]⟩)
    · exact .inr (.inr ⟨rfl, ht, by simp only [if_neg ht]⟩)

/-! ## The step -/

/-- With an empty schedule no agent moves. -/
theorem step_nil {s : State} (h : s.sched = []) : step s = .next s := by
  simp [step, stepEvent, h]

/-- A step is the first event of the schedule. -/
theorem step_cons {s : State} {e : Event} {rest : List Event} (h : s.sched = e :: rest) :
    step s = runEvent e (withSched rest s) := by
  simp [step, stepEvent, h]

/-- A step that answers a next state either had no event or ran the first one. -/
theorem step_next_cases {s t : State} (h : step s = .next t) :
    (s.sched = [] ∧ t = s) ∨
    (∃ e rest, s.sched = e :: rest ∧ runEvent e (withSched rest s) = .next t) := by
  cases hs : s.sched with
  | nil => rw [step_nil hs] at h; cases h; exact .inl ⟨rfl, rfl⟩
  | cons e rest => rw [step_cons hs] at h; exact .inr ⟨e, rest, rfl, h⟩

/-- The schedule after a command is placed. -/
theorem placePayload_sched (p : List Byte) (s : State) :
    (placePayload p s).sched = .host (.exec p (placePayload p s).opTimeout) :: s.sched := by
  unfold placePayload openForCommand
  cases s.eng <;> rfl

/-! ## HOST's turns -/

/-- What HOST does with the end of a command changes its own state only: the running sequence and the
result (R240). -/
theorem advance_eq (q : Sequence) (s : State) :
    advance q s = { s with seq := (advance q s).seq, result := (advance q s).result } := by
  obtain ⟨task, act, att⟩ := q
  cases task with
  | verifyPassword t => simp only [advance, endVerify]; split <;> rfl
  | captureWithRetry t => simp only [advance, endCapture]; split <;> rfl
  | identify t p =>
    cases p with
    | capture => simp only [advance, endIdentify]; split <;> rfl
    | convert => simp only [advance, endIdentify]; split <;> rfl
    | search => rfl
  | enroll loc t p =>
    cases p <;> simp only [advance, endEnroll, endEnrollCapture, endEnrollStep] <;> split <;> rfl
  | discover left => simp only [advance, endDiscover]; split <;> rfl

/-- A refused EXEC leaves the sequence where it is. -/
theorem afterIssue_of_not_wait {q : Sequence} {s : State} (h : s.eng ≠ .wait) :
    afterIssue q s = s := by
  rw [afterIssue, if_neg h]

/-- An accepted EXEC moves the sequence on. -/
theorem afterIssue_of_wait {q : Sequence} {s : State} (h : s.eng = .wait) :
    afterIssue q s = { s with seq := some q.issued } := by
  rw [afterIssue, if_pos h]

/-- Everything HOST can do when it issues the command of its position. -/
theorem issueTurn_cases (q : Sequence) (s : State) :
    (s.eng = .wait ∧ issueTurn q s = .next s) ∨
    (s.eng ≠ .wait ∧ q.task.command s.cfg s.pwd = none ∧
      issueTurn q s = .next (refuse .notOpen s)) ∨
    (∃ i, s.eng = .closed ∧ q.task.command s.cfg s.pwd = some i ∧
      issueTurn q s = .next (refuse .notOpen (withTimeout (q.task.timeout s.cfg) s))) ∨
    (∃ i a, s.eng = .idle ∧ q.task.command s.cfg s.pwd = some i ∧ s.addr = some a ∧
      issueTurn q s = .next
        { transmit (some i) (encode i) a (withTimeout (q.task.timeout s.cfg) s) with
          seq := some q.issued }) ∨
    (∃ i, s.eng = .idle ∧ q.task.command s.cfg s.pwd = some i ∧ s.addr = none ∧
      issueTurn q s = .fault .addrNoValue) := by
  by_cases hw : s.eng = .wait
  · exact .inl ⟨hw, by simp only [issueTurn, if_pos hw]⟩
  · cases hc : q.task.command s.cfg s.pwd with
    | none => exact .inr (.inl ⟨hw, rfl, by simp only [issueTurn, if_neg hw, hc]⟩)
    | some i =>
      obtain ⟨he, e⟩ | ⟨he, _⟩ | ⟨a, he, ha, e⟩ | ⟨he, ha, e⟩ :=
        exec_cases i (withTimeout (q.task.timeout s.cfg) s)
      · refine .inr (.inr (.inl ⟨i, he, rfl, ?_⟩))
        simp only [issueTurn, if_neg hw, hc, e]
        rw [afterIssue_of_not_wait (by simpa using hw)]
      · exact absurd he hw
      · refine .inr (.inr (.inr (.inl ⟨i, a, he, rfl, ha, ?_⟩)))
        simp only [issueTurn, if_neg hw, hc, e]
        rw [afterIssue_of_wait (transmit_eng _ _ _ _)]
      · exact .inr (.inr (.inr (.inr ⟨i, he, rfl, ha, by
          simp only [issueTurn, if_neg hw, hc, e]⟩)))

/-- Everything HOST can do at the attach position of discover (R252, R253). -/
theorem attachTurn_cases (q : Sequence) (s : State) :
    (attachTurn q s = s) ∨
    (q.task = .discover [] ∧ attachTurn q s = finish .noDeviceFound s) ∨
    (∃ c left, q.task = .discover (c :: left) ∧ s.eng = .closed ∧
      attachTurn q s = goto (.discover left) .issue
        (openEffect s.cfg.sessionAddr s.cfg.sessionPwd
          (attachTransport (candidateTransport s.cfg c) s))) ∨
    (s.eng ≠ .closed ∧ attachTurn q s = refuse .alreadyOpen s) := by
  obtain ⟨task, act, att⟩ := q
  cases task with
  | verifyPassword t => exact .inl rfl
  | captureWithRetry t => exact .inl rfl
  | identify t p => exact .inl rfl
  | enroll loc t p => exact .inl rfl
  | discover left =>
    cases left with
    | nil => exact .inr (.inl ⟨rfl, rfl⟩)
    | cons c left =>
      cases he : s.eng with
      | closed =>
        refine .inr (.inr (.inl ⟨c, left, rfl, rfl, ?_⟩))
        simp [attachTurn, he, openOp]
      | idle => exact .inr (.inr (.inr ⟨by simp, by simp [attachTurn, he]⟩))
      | wait => exact .inr (.inr (.inr ⟨by simp, by simp [attachTurn, he]⟩))

/-- Everything HOST can do at the close position of discover (R252). -/
theorem closeTurn_cases (q : Sequence) (s : State) :
    (s.eng = .idle ∧ closeTurn q s = goto q.task .attach
      { s with addr := none, pwd := none, eng := .closed, reply := .accepted }) ∨
    (s.eng ≠ .idle ∧ ∃ r, closeTurn q s = refuse r s) := by
  cases he : s.eng with
  | idle => exact .inl ⟨rfl, by simp [closeTurn, closeOp, he]⟩
  | closed => exact .inr ⟨by simp, .notOpen, by simp [closeTurn, closeOp, he]⟩
  | wait => exact .inr ⟨by simp, .busy, by simp [closeTurn, closeOp, he]⟩

/-- Everything HOST can do at an awaiting position (R192, R32). -/
theorem awaitTurn_cases (q : Sequence) (s : State) :
    (s.res = .none ∧ awaitTurn q s = s) ∨
    (s.res ≠ .none ∧ s.eng = .closed ∧ awaitTurn q s = refuse .notOpen s) ∨
    (s.res ≠ .none ∧ s.eng ≠ .closed ∧ awaitTurn q s = advance q s) := by
  unfold awaitTurn
  by_cases hr : s.res = .none
  · exact .inl ⟨hr, if_pos (by simp [State.doneFlag, hr])⟩
  · rw [if_neg (by simp [State.doneFlag, hr])]
    by_cases he : s.eng = .closed
    · exact .inr (.inl ⟨hr, he, if_pos he⟩)
    · exact .inr (.inr ⟨hr, he, if_neg he⟩)

/-- Everything a turn of HOST can be. -/
theorem hostTurn_cases (s : State) :
    (hostTurn s = .next s) ∨
    (∃ q, s.seq = some q ∧ q.act = .attach ∧ hostTurn s = .next (attachTurn q s)) ∨
    (∃ q, s.seq = some q ∧ q.act = .issue ∧ hostTurn s = issueTurn q s) ∨
    (∃ q, s.seq = some q ∧ q.act = .await ∧ hostTurn s = .next (awaitTurn q s)) ∨
    (∃ q, s.seq = some q ∧ q.act = .close ∧ hostTurn s = .next (closeTurn q s)) := by
  cases hq : s.seq with
  | none => exact .inl (by simp [hostTurn, hq])
  | some q =>
    cases ha : q.act with
    | attach => exact .inr (.inl ⟨q, rfl, ha, by simp [hostTurn, hq, ha]⟩)
    | issue => exact .inr (.inr (.inl ⟨q, rfl, ha, by simp [hostTurn, hq, ha]⟩))
    | await => exact .inr (.inr (.inr (.inl ⟨q, rfl, ha, by simp [hostTurn, hq, ha]⟩)))
    | delay n => exact .inl (by simp [hostTurn, hq, ha])
    | close => exact .inr (.inr (.inr (.inr ⟨q, rfl, ha, by simp [hostTurn, hq, ha]⟩)))

/-- Everything the start of a sequence can be. -/
theorem startOp_cases (r : Request) (s : State) :
    (s.seq ≠ none ∧ startOp r s = .refused .interleavedSequences) ∨
    (s.seq = none ∧ startRefusal r s.eng = none ∧ startOp r s = .next (beginSequence r s)) ∨
    (s.seq = none ∧ ∃ x, startRefusal r s.eng = some x ∧ startOp r s = .next (refuse x s)) := by
  unfold startOp
  cases hq : s.seq with
  | some q => exact .inl ⟨by simp, rfl⟩
  | none =>
    cases hx : startRefusal r s.eng with
    | none => exact .inr (.inl ⟨rfl, rfl, rfl⟩)
    | some x => exact .inr (.inr ⟨rfl, x, rfl, rfl⟩)

end Sys2Proof.Machine
end

