-- ==== Sys2Proof/Laws/PerInstr.lean ====
section
/-! SUPPORT. Statements about each command as syntax: the length of its payload (spec 43_commands.md
R220c) and its opcode byte (30_encoding.md R101). -/

namespace Sys2Proof.Laws

open Sys2Proof

/-! ## The payload's length is the one of the command's format (R99) -/

/-- The payload length R99 gives the command's format. -/
def PayloadLength.expected : Instr → Nat
  | .captureImage => 1
  | .imageToTemplate _ => 2
  | .search _ _ _ => 6
  | .registerModel => 1
  | .storeModel _ _ => 4
  | .deleteModel _ _ => 5
  | .emptyDatabase => 1
  | .verifyPassword _ => 5
  | .templateCount => 1

/-- The encoding has its format's length. -/
def PayloadLength.Statement (i : Instr) : Prop := (encode i).length = PayloadLength.expected i

theorem PayloadLength.captureImage : PayloadLength.Statement .captureImage := rfl
theorem PayloadLength.imageToTemplate (s : Byte) : PayloadLength.Statement (.imageToTemplate s) := rfl
theorem PayloadLength.search (s : Byte) (l h : Half) : PayloadLength.Statement (.search s l h) := rfl
theorem PayloadLength.registerModel : PayloadLength.Statement .registerModel := rfl
theorem PayloadLength.storeModel (s : Byte) (l : Half) : PayloadLength.Statement (.storeModel s l) := rfl
theorem PayloadLength.deleteModel (l c : Half) : PayloadLength.Statement (.deleteModel l c) := rfl
theorem PayloadLength.emptyDatabase : PayloadLength.Statement .emptyDatabase := rfl
theorem PayloadLength.verifyPassword (p : Word) : PayloadLength.Statement (.verifyPassword p) := rfl
theorem PayloadLength.templateCount : PayloadLength.Statement .templateCount := rfl

end Sys2Proof.Laws
end

