-- ==== Sys2Proof/Tests/Slice0.lean ====
section
/-! SUPPORT. Tests of the model against the vectors of spec/95_test_vectors.md (M, K, D, X, H and P below
are its rows), the WellFormed smoke tests, and for every statement with hypotheses a state that meets
them. -/

namespace Sys2Proof.Tests

open Sys2Proof Sys2Proof.Machine Sys2Proof.Claims

/-! ## Small states -/

/-- Parameters with the default table and two candidates. -/
def testConfig (strict : Bool) : Config :=
  { chkStrict := strict
    statusTable := defaultStatusTable
    tickPeriod := 1
    nofingerDelay := 2
    liftDelay := 0
    dbRangeLow := 0
    dbRangeHigh := 0x00A3
    verifyTimeout := 50
    candidates := [⟨1, 2, 9600⟩, ⟨3, 4, 57600⟩]
    readTimeout := 7
    sessionAddr := 0xFFFFFFFF
    sessionPwd := 0 }

/-- Reset, with two stale bytes in RXQ. -/
def closedS (strict : Bool := false) : State := State.initial (testConfig strict) [0xAA, 0xBB]

/-- A session is open (X3). -/
def idleS (strict : Bool := false) : State := openEffect 0xFFFFFFFF 0 (closedS strict)

/-- capture-image was sent with timeout 5 (X7). -/
def waitS (strict : Bool := false) : State :=
  transmit (some .captureImage) [0x01] 0xFFFFFFFF (withTimeout 5 (idleS strict))

/-- DEVICE has answered and nothing is read yet. -/
def answeringS (bytes : List Byte) (strict : Bool := false) : State := deviceSends bytes (waitS strict)

/-- The transaction ended with a status and extras. -/
def statusS (n : Status) (extra : List Byte) (cmd : Instr) : State :=
  { idleS with
    res := .response, st := some n, extra := extra
    rxLen := BitVec.ofNat 16 (extra.length + 3), lastCmd := some cmd }

/-- The transaction ended without a status. -/
def endedS (r : Res) (m : MReason) (cmd : Instr) : State :=
  { idleS with res := r, mreason := m, lastCmd := some cmd }

/-- The events are what happens next. -/
def before (l : List Event) (s : State) : State := withSched l s

/-- HOST runs a sequence. -/
def running (k : Task) (a : Activity) (att : Nat) (s : State) : State :=
  { s with seq := some ⟨k, a, att⟩ }

/-- The next state of an answer, if there is one. -/
def nextOf (r : Result) : Option State :=
  match r with
  | .next t => some t
  | .fault _ => none
  | .refused _ => none

/-- TXLOG after a command in the open session. -/
def frameSent (i : Instr) : Option (List Byte) := (nextOf (exec i idleS)).map (fun t => t.txlog)

/-- What HOST holds after reading the outcome. -/
def readingIn (s : State) : Option Reply :=
  (nextOf (step (before [.host .readOutcome] s))).map (fun t => t.reply)

/-! ## WellFormed refuses -/

theorem test_empty_payload_ill_formed : Payload.wf [] = false := by decide

theorem test_long_payload_ill_formed (p : List Byte) (h : p.length = 65534) :
    Payload.wf p = false := by
  simp [Payload.wf, MAX_PAYLOAD, h]

theorem test_long_payload_not_encodable (p : List Byte) (h : p.length = 65534) :
    Payload.encodable p = false := by
  simp [Payload.encodable, MAX_PAYLOAD, h]

theorem test_default_table_well_formed : StatusTable.wf defaultStatusTable = true := by decide

theorem test_table_without_a_name_refused : StatusTable.wf (defaultStatusTable.drop 1) = false := by
  decide

theorem test_table_with_a_name_twice_refused :
    StatusTable.wf (defaultStatusTable ++ [(0x04, .ok)]) = false := by decide

theorem test_table_with_a_byte_twice_refused :
    StatusTable.wf ((0x01, .ok) :: defaultStatusTable.drop 1) = false := by decide

theorem test_table_byte_out_of_range_refused :
    StatusTable.wf ((0x19, .ok) :: defaultStatusTable.drop 1) = false := by decide

theorem test_table_row_for_unknown_refused :
    StatusTable.wf ((0x04, .unknown) :: defaultStatusTable) = false := by decide

theorem test_config_with_a_bad_table_refused :
    Config.wf { testConfig false with statusTable := [] } = false := by decide

theorem test_config_well_formed : Config.wf (testConfig true) = true := by decide

/-! ## Decoding, from the payloads of 95_test_vectors.md section 2.5 -/

theorem test_decode_captureImage : decode [0x01] = .instr .captureImage := by decide

theorem test_decode_imageToTemplate : decode [0x02, 0xFF] = .instr (.imageToTemplate 255) := by decide

theorem test_decode_search :
    decode [0x04, 0x01, 0x00, 0x00, 0x00, 0xA3] = .instr (.search 1 0 0x00A3) := by decide

theorem test_decode_registerModel : decode [0x05] = .instr .registerModel := by decide

theorem test_decode_storeModel :
    decode [0x06, 0x01, 0x01, 0x02] = .instr (.storeModel 1 0x0102) := by decide

theorem test_decode_deleteModel :
    decode [0x0C, 0x00, 0x05, 0x00, 0x01] = .instr (.deleteModel 5 1) := by decide

theorem test_decode_emptyDatabase : decode [0x0D] = .instr .emptyDatabase := by decide

theorem test_decode_verifyPassword :
    decode [0x13, 0x12, 0x34, 0x56, 0x78] = .instr (.verifyPassword 0x12345678) := by decide

theorem test_decode_templateCount : decode [0x1D] = .instr .templateCount := by decide

theorem test_decode_unassigned : decode [0x7F] = .reject (.unassignedOpcode 0x7F) := by decide

theorem test_decode_wrong_length : decode [0x06, 0x01, 0x01] = .reject (.wrongLength 0x06) := by decide

theorem test_table_word : decodeTableWord 40 0x1312345678 = some (.verifyPassword 0x12345678) := by
  decide

/-! ## Frames sent (M2, M4, M5, M8, M10, M12, M15, M18, M19) -/

theorem test_frame_verifyPassword :
    frameSent (.verifyPassword 0x12345678) = some
      [0xEF, 0x01, 0xFF, 0xFF, 0xFF, 0xFF, 0x01, 0x00, 0x07, 0x13, 0x12, 0x34, 0x56, 0x78, 0x01,
       0x2F] := by decide

theorem test_frame_captureImage :
    frameSent .captureImage = some
      [0xEF, 0x01, 0xFF, 0xFF, 0xFF, 0xFF, 0x01, 0x00, 0x03, 0x01, 0x00, 0x05] := by decide

theorem test_frame_imageToTemplate :
    frameSent (.imageToTemplate 1) = some
      [0xEF, 0x01, 0xFF, 0xFF, 0xFF, 0xFF, 0x01, 0x00, 0x04, 0x02, 0x01, 0x00, 0x08] := by decide

theorem test_frame_registerModel :
    frameSent .registerModel = some
      [0xEF, 0x01, 0xFF, 0xFF, 0xFF, 0xFF, 0x01, 0x00, 0x03, 0x05, 0x00, 0x09] := by decide

theorem test_frame_storeModel :
    frameSent (.storeModel 1 0x0102) = some
      [0xEF, 0x01, 0xFF, 0xFF, 0xFF, 0xFF, 0x01, 0x00, 0x06, 0x06, 0x01, 0x01, 0x02, 0x00, 0x11] := by
  decide

theorem test_frame_search :
    frameSent (.search 1 0 0x00A3) = some
      [0xEF, 0x01, 0xFF, 0xFF, 0xFF, 0xFF, 0x01, 0x00, 0x08, 0x04, 0x01, 0x00, 0x00, 0x00, 0xA3, 0x00,
       0xB1] := by decide

theorem test_frame_deleteModel :
    frameSent (.deleteModel 5 1) = some
      [0xEF, 0x01, 0xFF, 0xFF, 0xFF, 0xFF, 0x01, 0x00, 0x07, 0x0C, 0x00, 0x05, 0x00, 0x01, 0x00,
       0x1A] := by decide

theorem test_frame_emptyDatabase :
    frameSent .emptyDatabase = some
      [0xEF, 0x01, 0xFF, 0xFF, 0xFF, 0xFF, 0x01, 0x00, 0x03, 0x0D, 0x00, 0x11] := by decide

theorem test_frame_templateCount :
    frameSent .templateCount = some
      [0xEF, 0x01, 0xFF, 0xFF, 0xFF, 0xFF, 0x01, 0x00, 0x03, 0x1D, 0x00, 0x21] := by decide

/-! ## Readings (M21, M24, M25, M26, M27, H4c) -/

theorem test_read_search_match :
    readingIn (statusS .ok [0x00, 0x05, 0x00, 0x64, 0xAA] (.search 1 0 0)) =
      some (.reading (.matched 5 100)) := by decide

theorem test_read_search_short :
    readingIn (statusS .ok [0x00, 0x05] (.search 1 0 0)) = some (.reading .shortExtras) := by decide

theorem test_read_templateCount :
    readingIn (statusS .ok [0x00, 0x03] .templateCount) = some (.reading (.count 3)) := by decide

theorem test_read_noFinger_elsewhere_fails :
    readingIn (statusS .noFingerDetected [] .registerModel) =
      some (.reading (.failure (.status .noFingerDetected))) := by decide

/-! ## CSUM16 (K4, the last addition of K7), DECODE (D3, D5, D9, D11, D12, D14, D16) -/

theorem test_csum_of_the_source_example :
    CSUM16 [0x01, 0x00, 0x07, 0x13, 0x00, 0x00, 0x00, 0x00] = 0x001B := by decide

theorem test_csum_discards_the_carry : csumAdd 0xFFFF 0xFF = 0x00FE := by decide

theorem test_decode_smallest_frame :
    DECODE true [0xEF, 0x01, 0xFF, 0xFF, 0xFF, 0xFF, 0x07, 0x00, 0x03, 0x00, 0x00, 0x0A] =
      .frame ⟨0xFFFFFFFF, 0x07, 3, [0x00], 0x000A, 0x000A, true⟩ := by decide

theorem test_decode_bad_marker :
    DECODE false [0xEF, 0x02, 0xFF, 0xFF, 0xFF, 0xFF, 0x07, 0x00, 0x00, 0x00, 0x00, 0x00] =
      .malformed .badMarker := by decide

theorem test_decode_length_one :
    DECODE false [0xEF, 0x01, 0xFF, 0xFF, 0xFF, 0xFF, 0x07, 0x00, 0x01, 0x00, 0x00, 0x00] =
      .malformed .badLength := by decide

theorem test_decode_below_the_gate :
    DECODE false [0xEF, 0x01, 0xFF, 0xFF, 0xFF, 0xFF, 0x07, 0x00, 0x02, 0x00, 0x09] =
      .needMoreData := by decide

theorem test_decode_empty_payload :
    DECODE true [0xEF, 0x01, 0xFF, 0xFF, 0xFF, 0xFF, 0x07, 0x00, 0x02, 0x00, 0x09, 0x55] =
      .frame ⟨0xFFFFFFFF, 0x07, 2, [], 0x0009, 0x0009, true⟩ := by decide

theorem test_decode_lenient :
    DECODE false [0xEF, 0x01, 0xFF, 0xFF, 0xFF, 0xFF, 0x07, 0x00, 0x03, 0x00, 0x00, 0xF5] =
      .frame ⟨0xFFFFFFFF, 0x07, 3, [0x00], 0x00F5, 0x000A, false⟩ := by decide

theorem test_decode_strict :
    DECODE true [0xEF, 0x01, 0xFF, 0xFF, 0xFF, 0xFF, 0x07, 0x00, 0x03, 0x00, 0x00, 0xF5] =
      .malformed .badChecksum := by decide

theorem test_kind_reserved : kindClass 0x05 = .reserved := by decide

/-! ## The engine (X7, X9, X12, X16, X21, X27), HOST (H2, H3, H4, H8) -/

theorem test_exec_flushes :
    (nextOf (step (before [.host (.exec [0x01] 5)] idleS))).map
      (fun t => (t.rxq, t.tmo, t.timer, t.eng)) = some ([], 5, 0, .wait) := by decide

theorem test_rx_response :
    (nextOf (step (before [.rx 12] (answeringS ackOk)))).map
      (fun t => (t.eng, t.res, t.st, t.rxLen, t.csumOk)) =
      some (.idle, .response, some .ok, 3, true) := by decide

theorem test_tick_expires :
    (nextOf (step (before [.tick] { waitS with timer := 4 }))).map
      (fun t => (t.eng, t.res, t.timer)) = some (.idle, .timedOut, 5) := by decide

theorem test_misaligned_answer :
    (nextOf (step (before [.rx 12] (answeringS ([0x00] ++ ackOk))))).map
      (fun t => (t.res, t.mreason, t.rxq, t.rxLen)) =
      some (.malformed, .badMarker, [0x0A], 0) := by decide

theorem test_empty_response :
    (nextOf (step (before [.rx 12] (answeringS
      [0xEF, 0x01, 0xFF, 0xFF, 0xFF, 0xFF, 0x07, 0x00, 0x02, 0x00, 0x09, 0x55])))).map
      (fun t => (t.mreason, t.rxLen, t.calcCsum, t.csumOk, t.st)) =
      some (.emptyPayload, 2, 9, true, none) := by decide

theorem test_reset_keeps_streams :
    (nextOf (step (before [.reset] (answeringS ackOk)))).map (fun t => (t.eng, t.rxq, t.txlog.length)) =
      some (.closed, ackOk, 12) := by decide

theorem test_tenth_no_finger_is_the_end :
    (nextOf (step (before [.host .turn] (running (.captureWithRetry 100) .await 10
      (statusS .noFingerDetected [] .captureImage))))).map (fun t => t.result) =
      some (some .captureTimeout) := by decide

/-- 10_state.md R32: a result is not readable in CLOSED, so the sequence returns nothing. -/
theorem test_outcome_unreadable_after_close :
    (nextOf (step (before [.host .turn] (running (.verifyPassword 50) .await 0
      (closeOp (statusS .ok [] (.verifyPassword 0))))))).map (fun t => (t.reply, t.result)) =
      some (.refused .notOpen, none) := by decide

theorem test_placed_word_runs_after_reset :
    (nextOf (step (State.reset.withFetchWord 8 0x01))).map (fun t => (t.eng, t.lastCmd)) =
      some (.wait, some .captureImage) := by decide

/-! ## Witnesses: every statement with hypotheses has inputs that meet them -/

/-- The invariant holds of the state in which capture-image was sent. -/
theorem waitS_inv (strict : Bool) : (waitS strict).Inv where
  block :=
    { rxCap := by simp [waitS, Memory.wf]
      waitClear := fun _ => ⟨rfl, rfl, rfl, rfl, rfl, rfl, rfl, rfl, rfl, rfl, rfl⟩
      waitTimer := fun _ => by decide +revert
      waitBuffer := fun _ => by simp [waitS, DECODE, MIN_DECODE]
      reason := by simp [waitS]
      responseLen := by simp [waitS]
      responseStatus := by simp [waitS]
      noResponse := fun _ => ⟨rfl, rfl, rfl⟩
      strict := by simp [waitS]
      closedAddr := by simp [waitS, idleS]
      closedPwd := by simp [waitS, idleS]
      log := ⟨[(0xFFFFFFFF, [0x01])], by simp [MAX_PAYLOAD], by
        simp [waitS, idleS, closedS, State.initial]⟩
      parkedLog := by simp [waitS, idleS, closedS, State.initial] }
  att := by simp [waitS, idleS, closedS, State.initial]

/-- The same invariant with events to come. -/
theorem before_inv {l : List Event} {s : State} (h : s.Inv) : (before l s).Inv :=
  ⟨⟨h.block.rxCap, fun e => let c := h.block.waitClear e
      ⟨c.res, c.mreason, c.stRaw, c.st, c.extra, c.rxAddr, c.rxKind, c.rxLen, c.rxCsum, c.calcCsum,
        c.csumOk⟩,
    h.block.waitTimer, h.block.waitBuffer, h.block.reason, h.block.responseLen,
    h.block.responseStatus, h.block.noResponse, h.block.strict, h.block.closedAddr,
    h.block.closedPwd, h.block.log, h.block.parkedLog⟩, h.att⟩

/-- The invariant holds of the state in which DEVICE has answered. -/
theorem answeringS_inv (bytes : List Byte) (strict : Bool) : (answeringS bytes strict).Inv :=
  let h := waitS_inv strict
  ⟨⟨h.block.rxCap, fun e => let c := h.block.waitClear e
      ⟨c.res, c.mreason, c.stRaw, c.st, c.extra, c.rxAddr, c.rxKind, c.rxLen, c.rxCsum, c.calcCsum,
        c.csumOk⟩,
    h.block.waitTimer, h.block.waitBuffer, h.block.reason, h.block.responseLen,
    h.block.responseStatus, h.block.noResponse, h.block.strict, h.block.closedAddr,
    h.block.closedPwd, h.block.log, h.block.parkedLog⟩, h.att⟩

theorem witness_DecodeOfEncode : (Instr.search 0xFF 0xFFFF 0xFFFF).wf = true := rfl

theorem witness_EncodeOfDecode :
    decode [0x0C, 0xFF, 0xFF, 0xFF, 0xFF] = .instr (.deleteModel 0xFFFF 0xFFFF) := by decide

theorem witness_OtherPayloadsRejected :
    (0x00 : Byte) ∉ ([0x01, 0x02, 0x04, 0x05, 0x06, 0x0C, 0x0D, 0x13, 0x1D] : List Byte) ∧
    (0x01 : Byte) ∈ ([0x01, 0x02, 0x04, 0x05, 0x06, 0x0C, 0x0D, 0x13, 0x1D] : List Byte) ∧
    ∀ i, encode i ≠ [0x01, 0x00] := by
  refine ⟨by decide, by decide, fun i => ?_⟩
  cases i <;> simp [encode, be16, be32]

theorem witness_StepRunsDecodedCommand :
    (before [.host (.exec [0x0D] 0)] idleS).sched = .host (.exec [0x0D] 0) :: [] ∧
    decode [0x0D] = .instr .emptyDatabase := ⟨rfl, by decide⟩

theorem witness_PlacedWordRunsNext :
    decodeTableWord 16 0x02FF = some (.imageToTemplate 0xFF) ∧ idleS.eng ≠ .closed ∧
    closedS.eng = .closed := by decide

theorem witness_Csum16SumsModulo65536 :
    ([0x02, 0x01] : List Byte).Perm [0x01, 0x02] := List.Perm.swap _ _ _

theorem witness_EncodeBuildsTheFrame (b : Byte) :
    (List.replicate 65533 b).length ≤ 65533 ∧ 65533 < (List.replicate 65534 b).length ∧
    (before [.host (.encodeFrame 0 .data [])] closedS).sched =
      .host (.encodeFrame 0 .data []) :: [] := by
  rw [List.length_replicate, List.length_replicate]
  exact ⟨by omega, by omega, rfl⟩

theorem witness_EncodeIsInjective :
    (ENCODE 0xFFFFFFFF .command [0x01]).isSome = true ∧
    (ENCODE 0x01020304 .endOfData []).isSome = true := by decide

theorem witness_DecodeOfEncodedFrame :
    ENCODE 0xFFFFFFFF .endOfData [] = some
      [0xEF, 0x01, 0xFF, 0xFF, 0xFF, 0xFF, 0x08, 0x00, 0x02, 0x00, 0x0A] ∧
    12 ≤ (([0xEF, 0x01, 0xFF, 0xFF, 0xFF, 0xFF, 0x08, 0x00, 0x02, 0x00, 0x0A] : List Byte)
      ++ [0x55]).length ∧
    ENCODE 0xFFFFFFFF .ack [0x00] = some ackOk ∧ 1 ≤ ([0x00] : List Byte).length := by decide

/-- Eleven bytes; twelve bytes whose second marker byte is wrong; declared lengths 0 and 1. -/
theorem witness_DecodeFirstTests :
    (ackOk.take 11).length < 12 ∧ 12 ≤ ackOk.length ∧
    ¬(([0xEF, 0x02] ++ ackOk.drop 2)[0]? = some 0xEF ∧ ([0xEF, 0x02] ++ ackOk.drop 2)[1]? = some 0x01) ∧
    ackOk[0]? = some 0xEF ∧ ackOk[1]? = some 0x01 ∧
    (0x00 : Byte).toNat * 256 + (0x00 : Byte).toNat < 2 ∧
    (0x00 : Byte).toNat * 256 + (0x01 : Byte).toNat < 2 := by decide

/-- L = 2 with three bytes after the header (complete); L = 4 with three (incomplete); L = 3 with a
right and with a wrong checksum (D3, D12, D13, D14). -/
theorem witness_DecodeCompleteFrame :
    3 ≤ ([0x00, 0x09, 0x55] : List Byte).length ∧
    2 ≤ (0x00 : Byte).toNat * 256 + (0x02 : Byte).toNat ∧
    ([0x00, 0x09, 0x55] : List Byte) = [] ++ 0x00 :: 0x09 :: [0x55] ∧
    ([] : List Byte).length + 2 = (0x00 : Byte).toNat * 256 + (0x02 : Byte).toNat ∧
    ([0x00, 0x09, 0x55] : List Byte).length < (0x00 : Byte).toNat * 256 + (0x04 : Byte).toNat ∧
    ((0x07 : Byte).toNat + (0x00 : Byte).toNat + (0x03 : Byte).toNat + sumOf [0x00]) % 65536 =
      (0x00 : Byte).toNat * 256 + (0x0A : Byte).toNat ∧
    ((0x07 : Byte).toNat + (0x00 : Byte).toNat + (0x03 : Byte).toNat + sumOf [0x00]) % 65536 ≠
      (0x00 : Byte).toNat * 256 + (0xF5 : Byte).toNat := by decide

theorem witness_DecodeIsMonotone :
    DECODE true ackOk = .frame ⟨0xFFFFFFFF, 0x07, 3, [0x00], 0x000A, 0x000A, true⟩ ∧
    DECODE true ([0x00] ++ ackOk) = .malformed .badMarker := by decide

theorem witness_DecodedFieldsAreMemReads :
    DECODE true ackOk = .frame ⟨0xFFFFFFFF, 0x07, 3, [0x00], 0x000A, 0x000A, true⟩ := by decide

theorem witness_KindByteClasses :
    (0x00 : Byte) ≠ 0x01 ∧ (0x00 : Byte) ≠ 0x02 ∧ (0x00 : Byte) ≠ 0x07 ∧ (0x00 : Byte) ≠ 0x08 := by
  decide

theorem witness_OpenStartsASession :
    (before [.host (.openSession 1 1)] closedS).eng = .closed ∧
    (before [.host (.openSession 1 1)] idleS).eng ≠ .closed ∧
    (before [.host (.openSession 1 1)] waitS).sched = .host (.openSession 1 1) :: [] := by decide

theorem witness_CloseEndsTheSession :
    (before [.host .closeSession] idleS).eng = .idle ∧
    (before [.host .closeSession] closedS).eng = .closed ∧
    (before [.host .closeSession] waitS).eng = .wait ∧
    (before [.host .closeSession] waitS).sched = .host .closeSession :: [] := by decide

theorem witness_ExecAcceptanceTests (b : Byte) :
    (before [.host (.exec [] 1)] closedS).eng = .closed ∧
    (before [.host (.exec [] 1)] waitS).eng = .wait ∧
    (before [.host (.exec [] 1)] idleS).eng = .idle ∧
    (before [.host (.exec [] 1)] idleS).sched = .host (.exec [] 1) :: [] ∧
    ([] : List Byte).length < 1 ∧ 65533 < (List.replicate 65534 b).length := by
  rw [List.length_replicate]
  exact ⟨rfl, rfl, rfl, rfl, by simp, by omega⟩

theorem witness_ExecAcceptedStep (b : Byte) :
    (before [.host (.exec [0x7F] 0)] idleS).sched = .host (.exec [0x7F] 0) :: [] ∧
    idleS.eng = .idle ∧ idleS.addr = some 0xFFFFFFFF ∧ 1 ≤ ([0x7F] : List Byte).length ∧
    (List.replicate 65533 b).length ≤ 65533 := by
  rw [List.length_replicate]
  exact ⟨rfl, rfl, rfl, by simp, by omega⟩

/-- An open session in IDLE: what every command's completion asks. -/
theorem witness_Sends : idleS.eng = .idle ∧ idleS.addr = some 0xFFFFFFFF := by decide

/-- For every command, an outcome of each kind that its reading distinguishes. -/
theorem witness_Readings (i : Instr) :
    (∀ n x, (statusS n x i).eng ≠ .closed ∧ (statusS n x i).lastCmd = some i ∧
      (statusS n x i).res = .response ∧ (statusS n x i).st = some n ∧ (statusS n x i).extra = x) ∧
    (endedS .timedOut .none i).eng ≠ .closed ∧ (endedS .timedOut .none i).lastCmd = some i ∧
    (endedS .timedOut .none i).res = .timedOut ∧
    (endedS .malformed .badMarker i).eng ≠ .closed ∧
    (endedS .malformed .badMarker i).lastCmd = some i ∧
    (endedS .malformed .badMarker i).res = .malformed :=
  ⟨fun _ _ => ⟨by simp [statusS, idleS], rfl, rfl, rfl, rfl⟩, by simp [endedS, idleS], rfl, rfl,
    by simp [endedS, idleS], rfl, rfl⟩

/-- The extras of search at 3 and 4 bytes, of template-count at 1 and 2; a status that is neither Ok nor
NoFingerDetected. -/
theorem witness_ReadingBoundaries :
    (statusS .ok [0, 0, 0] (.search 0 0 0)).extra.length < 4 ∧
    (statusS .ok [0, 5, 0, 100] (.search 0 0 0)).extra = 0 :: 5 :: 0 :: 100 :: [] ∧
    (statusS .ok [0] .templateCount).extra.length < 2 ∧
    (statusS .ok [0, 3] .templateCount).extra = 0 :: 3 :: [] ∧
    Status.unknown ∉ ([.ok, .noFingerDetected] : List Status) ∧ Status.notFound ≠ .ok := by decide

theorem witness_ReadsAs (i : Instr) :
    (before [.host .readOutcome] (statusS .ok [] i)).sched = .host .readOutcome :: [] := rfl

theorem witness_CommandsFrame :
    (nextOf (exec .captureImage closedS)).isSome = true ∧ closedS.eng = .closed ∧
    (nextOf (exec .captureImage waitS)).isSome = true ∧ waitS.eng = .wait ∧
    (nextOf (exec .captureImage idleS)).isSome = true ∧ idleS.eng = .idle ∧
    0 < waitS.txlog.length := by decide

theorem witness_RxDeliversTheResponse :
    (before [.rx 12] (answeringS ackOk)).eng = .wait ∧
    (before [.rx 12] (answeringS ackOk)).rxq ≠ [] ∧
    DECODE false (append (answeringS ackOk).rxbuf ((answeringS ackOk).rxq.take (min (max 12 1) 12))) =
      .frame ⟨0xFFFFFFFF, 0x07, 3, [0x00], 0x000A, 0x000A, true⟩ := by decide

theorem witness_RxEmptyPayloadIsMalformed :
    (before [.rx 12] (answeringS ackOk)).ResultsClear ∧
    DECODE false (append (waitS).rxbuf
      [0xEF, 0x01, 0xFF, 0xFF, 0xFF, 0xFF, 0x07, 0x00, 0x02, 0x00, 0x09, 0x55]) =
      .frame ⟨0xFFFFFFFF, 0x07, 2, [], 0x0009, 0x0009, true⟩ :=
  ⟨⟨rfl, rfl, rfl, rfl, rfl, rfl, rfl, rfl, rfl, rfl, rfl⟩, by decide⟩

theorem witness_RxMalformedEndsAtOnce :
    DECODE false (append (waitS).rxbuf ([0x00] ++ ackOk)) = .malformed .badMarker ∧
    DECODE false (append (waitS).rxbuf
      [0xEF, 0x01, 0xFF, 0xFF, 0xFF, 0xFF, 0x07, 0x00, 0x01, 0x00, 0x00, 0x00]) =
      .malformed .badLength ∧
    DECODE true (append (waitS true).rxbuf
      [0xEF, 0x01, 0xFF, 0xFF, 0xFF, 0xFF, 0x07, 0x00, 0x03, 0x00, 0x00, 0xF5]) =
      .malformed .badChecksum := by decide

theorem witness_RxWaitsOrIsNotEnabled :
    (before [.rx 0] (answeringS ackOk)).sched = .rx 0 :: [] ∧
    DECODE false (append (answeringS ackOk).rxbuf ((answeringS ackOk).rxq.take (min (max 0 1) 12))) =
      .needMoreData ∧
    idleS.eng ≠ .wait ∧ waitS.rxq = [] := by decide

theorem witness_AppendFillsToCapacity (b : Byte) :
    (List.replicate 65544 b).length ≤ 65544 := by
  rw [List.length_replicate]

/-- One tick below the timeout, at it, and outside WAIT. -/
theorem witness_TickCountsAndExpires :
    (before [.tick] { waitS with timer := 3 }).eng = .wait ∧
    (({ waitS with timer := 3 } : State).timer + 1).toNat < waitS.tmo.toNat ∧
    waitS.tmo.toNat ≤ (({ waitS with timer := 4 } : State).timer + 1).toNat ∧
    (before [.tick] idleS).eng ≠ .wait := by decide

theorem witness_TimeoutOfZeroOrOne :
    idleS.eng = .idle ∧ idleS.addr = some 0xFFFFFFFF ∧
    (before [.host (.exec [0x01] 0), .tick] idleS).sched = .host (.exec [0x01] 0) :: .tick :: [] ∧
    (before [.host (.exec [0x01] 1), .device ackOk, .rx 12, .tick] idleS).sched =
      .host (.exec [0x01] 1) :: .device ackOk :: .rx 12 :: .tick :: [] := by decide

theorem witness_ResetEvent : (before [.reset] waitS).sched = .reset :: [] := rfl

theorem witness_RegisterReads :
    (before [.host (.read .st)] closedS).eng = .closed ∧ Reg.st ≠ .eng ∧ Reg.st ≠ .busy ∧
    Reg.st ≠ .done ∧ (before [.host (.read .st)] idleS).eng ≠ .closed ∧
    (before [.host (.read .st)] idleS).sched = .host (.read .st) :: [] := by decide

theorem witness_StepKeepsInvariant :
    (before [.tick] waitS).Inv ∧ (nextOf (step (before [.tick] waitS))).isSome = true :=
  ⟨before_inv (waitS_inv false), by decide⟩

/-- A state with the invariant whose step is the one refusal. -/
theorem witness_OnlyInterleavedSequencesStop :
    (before [.host (.start .discover)]
      (running (.verifyPassword 50) .await 0 waitS)).Inv ∧
    nextOf (step (before [.host (.start .discover)]
      (running (.verifyPassword 50) .await 0 waitS))) = none :=
  ⟨before_inv ⟨⟨(waitS_inv false).block.rxCap, fun _ =>
      ⟨rfl, rfl, rfl, rfl, rfl, rfl, rfl, rfl, rfl, rfl, rfl⟩,
      (waitS_inv false).block.waitTimer, (waitS_inv false).block.waitBuffer,
      (waitS_inv false).block.reason, (waitS_inv false).block.responseLen,
      (waitS_inv false).block.responseStatus, (waitS_inv false).block.noResponse,
      (waitS_inv false).block.strict, (waitS_inv false).block.closedAddr,
      (waitS_inv false).block.closedPwd, (waitS_inv false).block.log,
      (waitS_inv false).block.parkedLog⟩, by
      intro q h
      simp only [running, Option.some.injEq] at h
      subst h
      exact ⟨by simp, by simp⟩⟩, by decide⟩

/-- Each state of ENG, with a step that answers a next state. -/
theorem witness_EngTransitions :
    (nextOf (step (before [.host (.openSession 1 1)] closedS))).isSome = true ∧
    (nextOf (step (before [.host (.exec [0x01] 1)] idleS))).isSome = true ∧
    (nextOf (step (before [.reset] waitS))).isSome = true ∧
    closedS.eng = .closed ∧ idleS.eng = .idle ∧ waitS.eng = .wait := by decide

theorem witness_SessionRegistersReadOnly :
    (nextOf (step (before [.host .closeSession] idleS))).map (fun t => t.eng) = some .closed ∧
    (nextOf (step (before [.host (.exec [0x01] 1)] idleS))).map (fun t => t.eng) = some .wait ∧
    idleS.eng ≠ .closed := by decide

/-- A step of each of the three kinds: an EXEC, a new transport, and one that leaves TXLOG; and an attach
outside CLOSED. -/
theorem witness_TxlogGrowsByCommandFrames :
    (nextOf (step (before [.host (.exec [0x01] 1)] idleS))).map (fun t => t.txlog.length) =
      some 12 ∧
    (nextOf (step (before [.host (.attach ⟨1, 2, 9600, 7⟩)] closedS))).map
      (fun t => t.parked.length) = some 1 ∧
    (nextOf (step (before [.tick] waitS))).map (fun t => t.txlog.length) = some 12 ∧
    (before [.host (.attach ⟨1, 2, 9600, 7⟩)] closedS).eng = .closed ∧
    (before [.host (.attach ⟨1, 2, 9600, 7⟩)] idleS).eng ≠ .closed ∧
    (before [.host (.attach ⟨1, 2, 9600, 7⟩)] idleS).sched =
      .host (.attach ⟨1, 2, 9600, 7⟩) :: [] := by decide

/-- Bytes from DEVICE, an empty schedule, a read of all of RXQ, an EXEC, a new transport and a TICK. -/
theorem witness_RxqIsFirstInFirstOut :
    (before [.device [0xEF]] idleS).sched = .device [0xEF] :: [] ∧ idleS.sched = [] ∧
    (nextOf (step (before [.rx 12] (answeringS ackOk)))).map (fun t => (t.rxq, t.rxbuf)) =
      some ([], ackOk) ∧
    (nextOf (step (before [.host (.exec [0x01] 1)] idleS))).map (fun t => t.rxq) = some [] ∧
    (nextOf (step (before [.host (.attach ⟨1, 2, 9600, 7⟩)] closedS))).map (fun t => t.rxq) =
      some [] ∧
    (nextOf (step (before [.tick] idleS))).map (fun t => t.rxq) = some [0xAA, 0xBB] := by decide

/-- Five ticks, two reads and a late byte: a schedule with enough ticks for timeout 5. -/
theorem witness_TransactionIsBounded :
    (before [.tick, .rx 1, .tick, .device [0x00], .rx 1, .tick, .tick, .tick] waitS).Inv ∧
    waitS.eng = .wait ∧
    max waitS.tmo.toNat 1 ≤ (([.tick, .rx 1, .tick, .device [0x00], .rx 1, .tick, .tick, .tick] :
      List Event).filter (fun e => decide (e = .tick))).length ∧
    (∀ e ∈ ([.tick, .rx 1, .tick, .device [0x00], .rx 1, .tick, .tick, .tick] : List Event),
      e = .tick ∨ (∃ k, e = .rx k) ∨ ∃ b, e = .device b) :=
  ⟨before_inv (waitS_inv false), rfl, by decide, by simp⟩

/-- Two different read sequences of one answer that both end the transaction. -/
theorem witness_ChunkingDoesNotMatter :
    (answeringS ackOk).Inv ∧ (answeringS ackOk).eng = .wait ∧
    (match Host.Core.run core 2 (before [.rx 11, .rx 1] (answeringS ackOk)) with
      | .next t => t.rxq = [] ∧ t.eng ≠ .wait
      | .fault _ => False
      | .refused _ => False) ∧
    (match Host.Core.run core 1 (before [.rx 12] (answeringS ackOk)) with
      | .next t => t.rxq = [] ∧ t.eng ≠ .wait
      | .fault _ => False
      | .refused _ => False) :=
  ⟨answeringS_inv ackOk false, rfl, ⟨rfl, by simp [before]; decide⟩, ⟨rfl, by simp [before]; decide⟩⟩

theorem witness_StatusNamesUnderTheTable :
    StatusTable.wf defaultStatusTable = true ∧ ((0x18 : Byte), Status.flashError) ∈ defaultStatusTable ∧
    Status.flashError ∈ deviceStatuses ∧
    0x18 < (0x19 : Byte).toNat ∧ ∀ n, ((0x04 : Byte), n) ∉ defaultStatusTable :=
  ⟨by decide, by decide, by decide, by decide, by intro n; cases n <;> decide⟩

theorem witness_Starts (r : Request) :
    idleS.seq = none ∧ closedS.seq = none ∧ idleS.eng = .idle ∧ closedS.eng = .closed ∧
    (before [.host (.start r)] idleS).sched = .host (.start r) :: [] := ⟨rfl, rfl, rfl, rfl, rfl⟩

/-- Every position at which a command is issued, in an open session in IDLE, and in WAIT. -/
theorem witness_SequenceIssues (k : Task) (att : Nat) :
    (before [.host .turn] (running k .issue att idleS)).sched = .host .turn :: [] ∧
    (before [.host .turn] (running k .issue att idleS)).seq = some ⟨k, .issue, att⟩ ∧
    (before [.host .turn] (running k .issue att idleS)).eng = .idle ∧
    (before [.host .turn] (running k .issue att idleS)).addr = some 0xFFFFFFFF ∧
    (before [.host .turn] (running k .issue att idleS)).pwd = some 0 ∧
    (before [.host .turn] (running k .issue att waitS)).eng = .wait :=
  ⟨rfl, rfl, rfl, rfl, rfl, rfl⟩

/-- Every position at which an outcome is read, with every status, with TIMEDOUT and with MALFORMED. -/
theorem witness_AtOutcome (k : Task) (att : Nat) (n : Status) (x : List Byte) (i : Instr) :
    AtOutcome k att [] (before [.host .turn] (running k .await att (statusS n x i))) ∧
    Answered n (before [.host .turn] (running k .await att (statusS n x i))) ∧
    AtOutcome k att [] (before [.host .turn] (running k .await att (endedS .timedOut .none i))) ∧
    FailedWith .timedOut
      (before [.host .turn] (running k .await att (endedS .timedOut .none i))) ∧
    AtOutcome k att []
      (before [.host .turn] (running k .await att (endedS .malformed .badMarker i))) ∧
    FailedWith .malformed
      (before [.host .turn] (running k .await att (endedS .malformed .badMarker i))) :=
  ⟨⟨rfl, by simp [before, running, statusS], by simp [before, running, statusS, idleS], rfl⟩,
    ⟨rfl, rfl⟩,
    ⟨rfl, by simp [before, running, endedS], by simp [before, running, endedS, idleS], rfl⟩,
    .inr (.inl ⟨rfl, rfl⟩),
    ⟨rfl, by simp [before, running, endedS], by simp [before, running, endedS, idleS], rfl⟩,
    .inr (.inr ⟨rfl, rfl⟩)⟩

/-- The attempt before the last, and the last. -/
theorem witness_CaptureAttempts : (9 : Nat) ≠ 10 ∧ (10 : Nat) = 10 := by decide

/-- discover: the empty list, a next candidate in CLOSED, and a failed candidate in IDLE. -/
theorem witness_DiscoverSequence (c : Candidate) :
    (running (.discover []) .attach 0 closedS).seq = some ⟨.discover [], .attach, 0⟩ ∧
    (running (.discover [c]) .attach 0 closedS).eng = .closed ∧
    (running (.discover [c]) .close 0 idleS).eng = .idle ∧
    (running (.discover [c]) .close 0 idleS).seq = some ⟨.discover [c], .close, 0⟩ :=
  ⟨rfl, rfl, rfl, rfl⟩

/-- HOST awaits an outcome in a session that another operation closed. -/
def closedUnderSequence (k : Task) (i : Instr) : State :=
  before [.host .turn] (running k .await 1 (closeOp (statusS .ok [] i)))

theorem witness_HostWaitsInTicks (k : Task) (i : Instr) :
    (before [.tick] (running k (.delay 1) 1 idleS)).seq = some ⟨k, .delay 1, 1⟩ ∧
    (before [.tick] (running k (.delay 1) 1 idleS)).sched = .tick :: [] ∧
    (before [.tick] (running k (.delay 1) 1 idleS)).eng ≠ .wait ∧
    (before [.host .turn] (running k .await 1 waitS)).res = .none ∧
    (closedUnderSequence k i).seq = some ⟨k, .await, 1⟩ ∧
    (closedUnderSequence k i).res ≠ .none ∧ (closedUnderSequence k i).eng = .closed ∧
    (closedUnderSequence k i).sched = .host .turn :: [] :=
  ⟨rfl, rfl, by simp [before, running, idleS], rfl, rfl,
    by simp [closedUnderSequence, before, running, closeOp, statusS, idleS], rfl, rfl⟩

theorem witness_CancelBetweenCommands :
    (before [.host .cancel] idleS).eng ≠ .wait ∧ (before [.host .cancel] waitS).eng = .wait ∧
    (before [.host .cancel] waitS).sched = .host .cancel :: [] := by decide

/-- A cycle of all events; an EXEC beside the end of a transaction; a frame with a payload, one without
and a Malformed verdict beside a TICK. -/
theorem witness_CycleOrder :
    (before [.sameCycle ⟨true, some .closeSession, some 12, true⟩] waitS).sched =
      .sameCycle ⟨true, some .closeSession, some 12, true⟩ :: [] ∧
    (before [.sameCycle ⟨false, some (.exec [0x01] 1), some 12, true⟩] waitS).eng = .wait ∧
    (before [.sameCycle ⟨false, none, some 12, true⟩] (answeringS ackOk)).eng = .wait ∧
    (answeringS ackOk).rxq ≠ [] ∧
    DECODE false (append (answeringS ackOk).rxbuf ((answeringS ackOk).rxq.take (min (max 12 1) 12))) =
      .frame ⟨0xFFFFFFFF, 0x07, 3, [0x00], 0x000A, 0x000A, true⟩ ∧
    DECODE false (append (waitS).rxbuf
      [0xEF, 0x01, 0xFF, 0xFF, 0xFF, 0xFF, 0x07, 0x00, 0x02, 0x00, 0x09, 0x55]) =
      .frame ⟨0xFFFFFFFF, 0x07, 2, [], 0x0009, 0x0009, true⟩ ∧
    DECODE false (append (waitS).rxbuf ([0x00] ++ ackOk)) = .malformed .badMarker := by decide

end Sys2Proof.Tests
end

section
/-! SUPPORT. STATUS under any table that R111 allows (spec 30_encoding.md): what `StatusTable.wf` says
of the rows, how `statusName` follows them, and the settlement of O51. -/

namespace Sys2Proof.Proofs

open Sys2Proof Sys2Proof.Machine

/-! ## What a well-formed table says of its rows -/

theorem StatusTable.nodup_keys_of_wf {t : StatusTable} (h : StatusTable.wf t = true) :
    (t.map (fun r => r.1)).Nodup := by
  simp only [StatusTable.wf, Bool.and_eq_true, decide_eq_true_eq] at h
  exact h.2

/-- A row carries a device-reported name, on a byte of R111's range. -/
theorem StatusTable.row_of_wf {t : StatusTable} (h : StatusTable.wf t = true) {b : Byte} {n : Status}
    (hr : (b, n) ∈ t) : n ≠ .unknown ∧ b.toNat ≤ 0x18 := by
  simp only [StatusTable.wf, Bool.and_eq_true, List.all_eq_true, decide_eq_true_eq] at h
  obtain ⟨⟨-, hrows⟩, -⟩ := h
  exact hrows (b, n) hr

theorem StatusTable.existsUnique_byte_of_wf {t : StatusTable} (h : StatusTable.wf t = true) {n : Status}
    (hn : n ∈ deviceStatuses) : ∃ b : Byte, ∀ c : Byte, (c, n) ∈ t ↔ c = b := by
  simp only [StatusTable.wf, Bool.and_eq_true, List.all_eq_true, beq_iff_eq] at h
  obtain ⟨⟨hnames, -⟩, -⟩ := h
  obtain ⟨⟨b, m⟩, hfilter⟩ := List.length_eq_one_iff.mp (hnames n hn)
  have hmem (r : Byte × Status) : r ∈ t ∧ r.2 = n ↔ r = (b, m) := by
    simpa using congrArg (r ∈ ·) hfilter
  obtain rfl : m = n := ((hmem (b, m)).mpr rfl).2
  exact ⟨b, fun c => by simpa using hmem (c, m)⟩

theorem ne_unknown_of_mem_deviceStatuses {n : Status} (hn : n ∈ deviceStatuses) : n ≠ .unknown := by
  rintro rfl
  exact absurd hn (by decide)

/-! ## How `statusName` follows the rows -/

/-- The first row of a byte is its only one, so the lookup finds the row at hand. -/
theorem statusName_of_mem {t : StatusTable} (hkeys : (t.map (fun r => r.1)).Nodup) {b : Byte}
    {n : Status} (hr : (b, n) ∈ t) : statusName t b = n := by
  unfold statusName
  split
  next m hlookup =>
    obtain ⟨l₁, l₂, rfl, -⟩ := List.lookup_eq_some_iff.mp hlookup
    exact congrArg Prod.snd (List.inj_on_of_nodup_map hkeys (by simp) hr rfl : (b, m) = (b, n))
  next hnone => simpa using List.lookup_eq_none_iff.mp hnone _ hr

theorem statusName_of_no_row {t : StatusTable} {b : Byte} (hb : ∀ n, (b, n) ∉ t) :
    statusName t b = .unknown := by
  unfold statusName
  split
  next m hlookup =>
    obtain ⟨l₁, l₂, rfl, -⟩ := List.lookup_eq_some_iff.mp hlookup
    exact absurd (by simp) (hb m)
  next => rfl

/-- Where no byte has two rows, a name other than Unknown comes from a row only. -/
theorem statusName_eq_iff_mem {t : StatusTable} (hkeys : (t.map (fun r => r.1)).Nodup) {b : Byte}
    {n : Status} (hn : n ≠ .unknown) : statusName t b = n ↔ (b, n) ∈ t := by
  refine ⟨fun hname => ?_, statusName_of_mem hkeys⟩
  by_cases hrow : ∃ m, (b, m) ∈ t
  · obtain ⟨m, hm⟩ := hrow
    rwa [← hname, statusName_of_mem hkeys hm]
  · exact absurd (hname.symm.trans (statusName_of_no_row (not_exists.mp hrow))) hn

/-- Settles O51: each clause reads off the rows, through `statusName_eq_iff_mem` for the names. -/
theorem statusNamesUnderTheTable : Obligations.StatusNamesUnderTheTable := by
  intro t hwf
  have hkeys := StatusTable.nodup_keys_of_wf hwf
  refine ⟨fun b n => statusName_of_mem hkeys, fun n hn => ?_, fun b hb => ?_,
    fun b => statusName_of_no_row⟩
  · obtain ⟨b, hbyte⟩ := StatusTable.existsUnique_byte_of_wf hwf hn
    have hname (c : Byte) : statusName t c = n ↔ c = b :=
      (statusName_eq_iff_mem hkeys (ne_unknown_of_mem_deviceStatuses hn)).trans (hbyte c)
    have hrow : (b, n) ∈ t := (hbyte b).mpr rfl
    exact ⟨b, (StatusTable.row_of_wf hwf hrow).2, (hname b).mpr rfl, fun c => (hname c).mp⟩
  · refine statusName_of_no_row fun n hrow => ?_
    obtain ⟨-, hrange⟩ := StatusTable.row_of_wf hwf hrow
    omega

end Sys2Proof.Proofs
end

section
/-! SUPPORT. The codec's numbers and the frame ENCODE builds (spec 40_codec_encode.md R130 to R135):
CSUM16 as a sum, the model's byte-order helpers against the statements' own, and the settlements of
O8, O9 and O10. -/

namespace Sys2Proof.Proofs

open Sys2Proof Sys2Proof.Machine Sys2Proof.Claims

/-! ## The sum of the bytes -/

@[simp] theorem sumOf_nil : sumOf [] = 0 := rfl

@[simp] theorem sumOf_cons (b : Byte) (s : List Byte) : sumOf (b :: s) = b.toNat + sumOf s := by
  simp [sumOf]

theorem sumOf_eq_of_perm {s t : List Byte} (h : s.Perm t) : sumOf s = sumOf t :=
  (h.map BitVec.toNat).sum_nat

/-! ## CSUM16 is that sum in 16 bits (R130) -/

/-- Reducing after every addition is reducing once at the end, from any accumulator. -/
theorem foldl_csumAdd (s : List Byte) (acc : Half) :
    s.foldl csumAdd acc = acc + BitVec.ofNat 16 (sumOf s) := by
  induction s generalizing acc with
  | nil => simp
  | cons b s ih =>
    rw [List.foldl_cons, ih, csumAdd, sumOf_cons, BitVec.ofNat_add, BitVec.ofNat_toNat,
      BitVec.add_assoc]

theorem CSUM16_eq_ofNat_sumOf (s : List Byte) : CSUM16 s = BitVec.ofNat 16 (sumOf s) := by
  rw [CSUM16, foldl_csumAdd, zero_add]

/-- Settles O8: every clause reads off the byte sum, through `CSUM16_eq_ofNat_sumOf`. -/
theorem csum16SumsModulo65536 : Obligations.Csum16SumsModulo65536 := by
  refine ⟨fun s => ?_, rfl, fun s t hperm => ?_⟩
  · rw [CSUM16_eq_ofNat_sumOf, BitVec.toNat_ofNat]
  · rw [CSUM16_eq_ofNat_sumOf, CSUM16_eq_ofNat_sumOf, sumOf_eq_of_perm hperm]

/-! ## Numbers to bytes and back (R132) -/

/-- A number modulo 256 has the number's low byte. -/
theorem ofNat_mod_256 (n : Nat) : BitVec.ofNat 8 (n % 256) = BitVec.ofNat 8 n :=
  BitVec.eq_of_toNat_eq (by simp)

/-- `u16` at index 0 of two bytes is their number. -/
theorem u16At_be16 (v : Half) : u16At (be16 v) 0 = v := u16_of_be16 v

theorem u32At_be32 (v : Word) : u32At (be32 v) 0 = v := u32_of_be32 v

/-- Settles O9: the bytes are those of `be16_eq_ofNat` and `be32_eq_ofNat`, where a byte keeps its
number modulo 256. -/
theorem multiByteAssembly : Obligations.MultiByteAssembly := by
  refine ⟨fun v => ⟨?_, u16At_be16 v⟩, fun v => ⟨?_, u32At_be32 v⟩⟩
  · rw [be16_eq_ofNat, ofNat_mod_256]
  · rw [be32_eq_ofNat, ofNat_mod_256, ofNat_mod_256, ofNat_mod_256]
    rfl

/-! ## The fields of a frame (R90, R96) -/

theorem be32_eq_bytesOf4 (v : Word) : be32 v = bytesOf4 v.toNat := be32_eq_ofNat v

theorem be16_ofNat_eq_bytesOf2 {n : Nat} (h : n < 65536) : be16 (BitVec.ofNat 16 n) = bytesOf2 n := by
  rw [be16_eq_ofNat, BitVec.toNat_ofNat, Nat.mod_eq_of_lt h, bytesOf2]

theorem sumOf_bytesOf2_append {n : Nat} (h : n < 65536) (s : List Byte) :
    sumOf (bytesOf2 n ++ s) = n / 256 + n % 256 + sumOf s := by
  have hhigh : n / 256 % 256 = n / 256 := by omega
  simp [bytesOf2, hhigh, Nat.add_assoc]

theorem kindCode_toNat (k : Kind) : (kindCode k).toNat = codeOf k := by
  cases k <;> rfl

theorem kindCode_eq_ofNat (k : Kind) : kindCode k = BitVec.ofNat 8 (codeOf k) := by
  rw [← kindCode_toNat, BitVec.ofNat_toNat, BitVec.setWidth_eq]

theorem frameCsum_eq_checksumOf (k : Kind) {p : List Byte} (h : p.length + 2 < 65536) :
    frameCsum (kindCode k) (BitVec.ofNat 16 (p.length + 2)) p =
      BitVec.ofNat 16 (checksumOf (codeOf k) p) := by
  have hsum : sumOf ([kindCode k] ++ bytesOf2 (p.length + 2) ++ p) =
      codeOf k + (p.length + 2) / 256 + (p.length + 2) % 256 + sumOf p := by
    rw [List.append_assoc, List.singleton_append, sumOf_cons, sumOf_bytesOf2_append h,
      kindCode_toNat]
    omega
  rw [frameCsum, be16_ofNat_eq_bytesOf2 h, CSUM16_eq_ofNat_sumOf, hsum, checksumOf]
  exact BitVec.eq_of_toNat_eq (by simp)

/-- The model's frame is R90's frame: the length and the checksum fit their 16 bits. -/
theorem frameBytes_eq_frameOf (a : Word) (k : Kind) {p : List Byte} (h : p.length + 2 < 65536) :
    frameBytes a k p = frameOf a (codeOf k) p := by
  have hcsum : checksumOf (codeOf k) p < 65536 := Nat.mod_lt _ (by decide)
  rw [frameBytes, frameOf, be32_eq_bytesOf4, be16_ofNat_eq_bytesOf2 h,
    frameCsum_eq_checksumOf k h, be16_ofNat_eq_bytesOf2 hcsum, kindCode_eq_ofNat]

/-! ## ENCODE, and HOST using it alone (R133, R135) -/

theorem ENCODE_eq_frameOf (a : Word) (k : Kind) {p : List Byte} (h : p.length ≤ MAX_PAYLOAD) :
    ENCODE a k p = some (frameOf a (codeOf k) p) := by
  rw [ENCODE_of_le a k h, frameBytes_eq_frameOf a k (by simp only [MAX_PAYLOAD] at h; omega)]

theorem encodeOp_of_some {a : Word} {k : Kind} {p f : List Byte} (h : ENCODE a k p = some f)
    (s : State) : encodeOp a k p s = { s with reply := .encoded f } := by
  rw [encodeOp, h]

theorem encodeOp_of_none {a : Word} {k : Kind} {p : List Byte} (h : ENCODE a k p = none)
    (s : State) : encodeOp a k p s = refuse .badPayloadLength s := by
  rw [encodeOp, h]

/-- HOST's ENCODE at the head of the schedule is the step. -/
theorem step_encodeFrame {s : State} {a : Word} {k : Kind} {p : List Byte} {rest : List Event}
    (h : s.sched = .host (.encodeFrame a k p) :: rest) :
    step s = .next (encodeOp a k p (withSched rest s)) :=
  step_cons h

/-- Settles O10: the frame is `frameBytes_eq_frameOf`'s, and HOST's step answers what ENCODE does. -/
theorem encodeBuildsTheFrame : Obligations.EncodeBuildsTheFrame := by
  intro a k p
  have haccepts : p.length ≤ 65533 → ENCODE a k p = some (frameOf a (codeOf k) p) :=
    ENCODE_eq_frameOf a k
  have hrefuses : 65533 < p.length → ENCODE a k p = none := ENCODE_of_gt a k
  refine ⟨fun hle => ⟨haccepts hle, ?_⟩, hrefuses,
    fun s rest hsched => ⟨fun hle => ?_, fun hgt => ?_⟩⟩
  · rw [← frameBytes_eq_frameOf a k (by omega), frameBytes_length]
  · rw [step_encodeFrame hsched, encodeOp_of_some (haccepts hle)]
    rfl
  · rw [step_encodeFrame hsched, encodeOp_of_none (hrefuses hgt)]
    rfl

end Sys2Proof.Proofs
end

section
/-! SUPPORT. DECODE of a received buffer (spec 41_codec_decode.md R150 to R159): one equation per test,
the fields of a buffer that starts with the marker, and the settlements of O13, O14 and O17. -/

namespace Sys2Proof.Proofs

open Sys2Proof Sys2Proof.Machine Sys2Proof.Claims

/-! ## The class of a kind byte (R159) -/

theorem kindClass_kindCode (k : Kind) : kindClass (kindCode k) = .known k := by
  cases k <;> rfl

theorem kindClass_of_ne {b : Byte} (h1 : b ≠ 0x01) (h2 : b ≠ 0x02) (h7 : b ≠ 0x07) (h8 : b ≠ 0x08) :
    kindClass b = .reserved := by
  rw [kindClass, if_neg h1, if_neg h2, if_neg h7, if_neg h8]

/-- Settles O17: the four bytes are the codes of the four kinds. -/
theorem kindByteClasses : Obligations.KindByteClasses :=
  ⟨kindClass_kindCode .command, kindClass_kindCode .data, kindClass_kindCode .ack,
    kindClass_kindCode .endOfData, fun _ => kindClass_of_ne⟩

/-! ## Reading the buffer -/

theorem byteAt_of_getElem? {b : Memory} {i : Nat} {x : Byte} (h : b[i]? = some x) :
    byteAt b i = x := by
  rw [byteAt, List.getD_eq_getElem?_getD, h, Option.getD_some]

theorem getElem?_eq_some_byteAt {b : Memory} {i : Nat} (h : i < b.length) :
    b[i]? = some (byteAt b i) := by
  rw [byteAt_of_getElem? (List.getElem?_eq_getElem h), List.getElem?_eq_getElem h]

theorem u16_eq_ofNat (hi lo : Byte) : u16 hi lo = BitVec.ofNat 16 (hi.toNat * 256 + lo.toNat) := by
  rw [← u16_toNat, BitVec.ofNat_toNat, BitVec.setWidth_eq]

theorem u32_eq_ofNat (b3 b2 b1 b0 : Byte) :
    u32 b3 b2 b1 b0 =
      BitVec.ofNat 32 (((b3.toNat * 256 + b2.toNat) * 256 + b1.toNat) * 256 + b0.toNat) := by
  rw [← u32_toNat, BitVec.ofNat_toNat, BitVec.setWidth_eq]

/-- The computed checksum is the received one exactly when the sums agree modulo 65536 (R157). -/
theorem ofNat_eq_u16_iff (n : Nat) (hi lo : Byte) :
    BitVec.ofNat 16 n = u16 hi lo ↔ n % 65536 = hi.toNat * 256 + lo.toNat := by
  rw [← BitVec.toNat_inj, BitVec.toNat_ofNat, u16_toNat]

/-! ## DECODE, an equation per test (R150) -/

section Tests

variable {strict : Bool} {b : Memory}

theorem DECODE_of_length_lt (h : b.length < MIN_DECODE) : DECODE strict b = .needMoreData := by
  rw [DECODE, if_pos h]

theorem DECODE_of_no_marker (h12 : MIN_DECODE ≤ b.length)
    (hmark : ¬(byteAt b 0 = 0xEF ∧ byteAt b 1 = 0x01)) : DECODE strict b = .malformed .badMarker := by
  rw [DECODE, if_neg (Nat.not_lt.mpr h12), if_pos (not_and_or.mp hmark)]

/-- With the marker, the declared length decides. -/
theorem DECODE_of_marker (h12 : MIN_DECODE ≤ b.length) (hmark : byteAt b 0 = 0xEF ∧ byteAt b 1 = 0x01) :
    DECODE strict b =
      if (u16At b 7).toNat < 2 then .malformed .badLength
      else if b.length < HDR_LEN + (u16At b 7).toNat then .needMoreData
      else if strict = true ∧ (extractFrame b (u16At b 7)).csumOk = false then
        .malformed .badChecksum
      else .frame (extractFrame b (u16At b 7)) := by
  rw [DECODE, if_neg (Nat.not_lt.mpr h12), if_neg (not_or.mpr (by simpa only [not_not]))]

end Tests

/-- Settles O13: each clause is one test of DECODE, on the bytes the buffer holds. -/
theorem decodeFirstTests : Obligations.DecodeFirstTests := by
  refine fun strict b => ⟨DECODE_of_length_lt, fun h12 hmark => ?_,
    fun h l h12 h0 h1 h7 h8 hlen => ?_⟩
  · refine DECODE_of_no_marker h12 fun ⟨m0, m1⟩ => hmark ⟨?_, ?_⟩
    · rw [getElem?_eq_some_byteAt (by omega), m0]
    · rw [getElem?_eq_some_byteAt (by omega), m1]
  · have hdeclared : (u16At b 7).toNat = h.toNat * 256 + l.toNat := by
      rw [u16At, byteAt_of_getElem? h7, byteAt_of_getElem? h8, u16_toNat]
    rw [DECODE_of_marker h12 ⟨byteAt_of_getElem? h0, byteAt_of_getElem? h1⟩,
      if_pos (by rwa [hdeclared])]

/-! ## A buffer that starts with the marker (R152, R155) -/

/-- The marker, the other seven header bytes, and what was received after them. -/
def headed (a3 a2 a1 a0 k h l : Byte) (body : List Byte) : Memory :=
  0xEF :: 0x01 :: a3 :: a2 :: a1 :: a0 :: k :: h :: l :: body

section Headed

variable {strict : Bool} {a3 a2 a1 a0 k h l : Byte} {body : List Byte}

theorem headed_length : (headed a3 a2 a1 a0 k h l body).length = HDR_LEN + body.length :=
  Nat.add_comm body.length 9

theorem byteAt_headed (i : Nat) :
    byteAt (headed a3 a2 a1 a0 k h l body) (HDR_LEN + i) = byteAt body i := by
  rw [Nat.add_comm]
  rfl

theorem u16At_headed (i : Nat) :
    u16At (headed a3 a2 a1 a0 k h l body) (HDR_LEN + i) = u16At body i := by
  rw [u16At, Nat.add_assoc, byteAt_headed, byteAt_headed, u16At]

theorem slice_headed (n : Nat) :
    slice (headed a3 a2 a1 a0 k h l body) HDR_LEN (HDR_LEN + n) = body.take n := by
  rw [slice, Nat.add_sub_cancel_left]
  rfl

theorem u16At_append_length (p t : List Byte) (c1 c0 : Byte) :
    u16At (p ++ c1 :: c0 :: t) p.length = u16 c1 c0 := by
  simp [u16At, byteAt]

/-- The first two tests pass; the declared length is the number that `h` and `l` spell. -/
theorem DECODE_headed (hbody : 3 ≤ body.length) (hlen : 2 ≤ h.toNat * 256 + l.toNat) :
    DECODE strict (headed a3 a2 a1 a0 k h l body) =
      if body.length < h.toNat * 256 + l.toNat then .needMoreData
      else if strict = true ∧
          (extractFrame (headed a3 a2 a1 a0 k h l body) (u16 h l)).csumOk = false then
        .malformed .badChecksum
      else .frame (extractFrame (headed a3 a2 a1 a0 k h l body) (u16 h l)) := by
  have hdeclared : u16At (headed a3 a2 a1 a0 k h l body) 7 = u16 h l := rfl
  have h12 : MIN_DECODE ≤ (headed a3 a2 a1 a0 k h l body).length := by
    rw [headed_length, MIN_DECODE, HDR_LEN]
    omega
  rw [DECODE_of_marker h12 ⟨rfl, rfl⟩, hdeclared, u16_toNat, if_neg (Nat.not_lt.mpr hlen),
    headed_length]
  simp only [Nat.add_lt_add_iff_left]

/-- The fields of a complete frame, whatever follows it (R155 to R157). -/
theorem extractFrame_headed {payload t : List Byte} {c1 c0 : Byte}
    (hlen : payload.length + 2 = h.toNat * 256 + l.toNat) :
    extractFrame (headed a3 a2 a1 a0 k h l (payload ++ c1 :: c0 :: t)) (u16 h l) =
      { addr := BitVec.ofNat 32
          (((a3.toNat * 256 + a2.toNat) * 256 + a1.toNat) * 256 + a0.toNat)
        kind := k
        len := BitVec.ofNat 16 (h.toNat * 256 + l.toNat)
        payload := payload
        rxCsum := BitVec.ofNat 16 (c1.toNat * 256 + c0.toNat)
        calcCsum := BitVec.ofNat 16 (k.toNat + h.toNat + l.toNat + sumOf payload)
        csumOk := decide ((k.toNat + h.toNat + l.toNat + sumOf payload) % 65536 =
          c1.toNat * 256 + c0.toNat) } := by
  have hend : HDR_LEN + (u16 h l).toNat - 2 = HDR_LEN + payload.length := by
    rw [u16_toNat]
    omega
  have hcsum : CSUM16 (k :: h :: l :: payload) =
      BitVec.ofNat 16 (k.toNat + h.toNat + l.toNat + sumOf payload) := by
    rw [CSUM16_eq_ofNat_sumOf, sumOf_cons, sumOf_cons, sumOf_cons, Nat.add_assoc, Nat.add_assoc]
  have hslice : slice (headed a3 a2 a1 a0 k h l (payload ++ c1 :: c0 :: t)) HDR_LEN
      (HDR_LEN + payload.length) = payload := by
    rw [slice_headed, List.take_left]
  simp only [extractFrame, hend, hslice, u16At_headed, u16At_append_length, ← ofNat_eq_u16_iff,
    ← hcsum, ← u32_eq_ofNat, ← u16_eq_ofNat]
  rfl

end Headed

/-- Settles O14: `DECODE_headed` makes the tests, `extractFrame_headed` gives the fields. -/
theorem decodeCompleteFrame : Obligations.DecodeCompleteFrame := by
  intro strict a3 a2 a1 a0 k h l body hbody hlen
  refine ⟨fun hshort => (DECODE_headed hbody hlen).trans (if_pos hshort), ?_⟩
  rintro payload t c1 c0 rfl hpayload
  have hcomplete : ¬(payload ++ c1 :: c0 :: t).length < h.toNat * 256 + l.toNat := by
    rw [List.length_append, List.length_cons, List.length_cons]
    omega
  have hdecode : DECODE strict (headed a3 a2 a1 a0 k h l (payload ++ c1 :: c0 :: t)) = _ :=
    (DECODE_headed hbody hlen).trans (if_neg hcomplete)
  rw [extractFrame_headed hpayload] at hdecode
  simp only [decide_eq_false_iff_not] at hdecode
  exact ⟨fun hmismatch => hdecode.trans (if_pos hmismatch),
    fun hmatch => hdecode.trans (if_neg hmatch)⟩

end Sys2Proof.Proofs
end

section
/-! SUPPORT. The session operations and EXEC (spec 42_engine_execute.md R181 to R184): HOST's operation
at the head of the schedule as one step, EXEC of any payload as the shared EXEC with the command the
payload spells, and the settlements of O18, O19, O20 and O21. -/

namespace Sys2Proof.Proofs

open Sys2Proof Sys2Proof.Machine Sys2Proof.Claims

/-! ## OPEN and CLOSE (R181, R182) -/

theorem openOp_closed {a p : Word} {s : State} (h : s.eng = .closed) :
    openOp a p s = openEffect a p s := by
  rw [openOp, h]

theorem openOp_of_ne_closed {a p : Word} {s : State} (h : s.eng ≠ .closed) :
    openOp a p s = refuse .alreadyOpen s :=
  (openOp_cases a p s).resolve_left (fun hopen => h hopen.1) |>.2

theorem closeOp_closed {s : State} (h : s.eng = .closed) : closeOp s = refuse .notOpen s := by
  rw [closeOp, h]

theorem closeOp_wait {s : State} (h : s.eng = .wait) : closeOp s = refuse .busy s := by
  rw [closeOp, h]

theorem closeOp_idle {s : State} (h : s.eng = .idle) :
    closeOp s = { s with addr := none, pwd := none, eng := .closed, reply := .accepted } := by
  rw [closeOp, h]

/-- OPEN at the head of the schedule is the step. -/
theorem step_openSession {s : State} {a p : Word} {rest : List Event}
    (h : s.sched = .host (.openSession a p) :: rest) :
    step s = .next (openOp a p (withSched rest s)) :=
  step_cons h

/-- CLOSE at the head of the schedule is the step. -/
theorem step_closeSession {s : State} {rest : List Event}
    (h : s.sched = .host .closeSession :: rest) :
    step s = .next (closeOp (withSched rest s)) :=
  step_cons h

/-- Settles O18: in CLOSED the step is `openEffect`, elsewhere the refusal. -/
theorem openStartsASession : Obligations.OpenStartsASession := by
  refine fun s a p rest hsched => ⟨fun hclosed => ?_, fun hopen => ?_⟩
  · rw [step_openSession hsched, openOp_closed (s := withSched rest s) hclosed]
    rfl
  · rw [step_openSession hsched, openOp_of_ne_closed (s := withSched rest s) hopen]
    rfl

/-- Settles O19: one equation of `closeOp` for each value of ENG. -/
theorem closeEndsTheSession : Obligations.CloseEndsTheSession := by
  refine fun s rest hsched => ⟨fun hidle => ?_, fun hclosed => ?_, fun hwait => ?_⟩
  · rw [step_closeSession hsched, closeOp_idle (s := withSched rest s) hidle]
    rfl
  · rw [step_closeSession hsched, closeOp_closed (s := withSched rest s) hclosed]
    rfl
  · rw [step_closeSession hsched, closeOp_wait (s := withSched rest s) hwait]
    rfl

/-! ## EXEC of a payload, a command's or not (R183, R184) -/

/-- The bytes a command is read from are the bytes it is sent as (R99, R101). -/
theorem encode_of_decodeArgs {op : Byte} {args : List Byte} {i : Instr} :
    decodeArgs op args = .instr i → encode i = op :: args := by
  fun_cases decodeArgs op args <;> intro h <;> cases h
  case case5 hop _ _ _ _ _ => rw [hop, encode, be16_u16, be16_u16]; rfl
  case case9 hop _ _ _ => rw [hop, encode, be16_u16]; rfl
  case case11 hop _ _ _ _ => rw [hop, encode, be16_u16, be16_u16]; rfl
  case case15 hop _ _ _ _ => rw [hop, encode, be32_u32]; rfl
  all_goals simp only [encode, *]

theorem encode_of_decode {p : List Byte} {i : Instr} (h : decode p = .instr i) : encode i = p := by
  cases p with
  | nil => cases h
  | cons op args => exact encode_of_decodeArgs h

/-- HOST's EXEC is the shared EXEC of the bytes as given: a payload that spells a command is that
command's own encoding. -/
theorem execOp_eq_execPayload (p : List Byte) (t : Word) (s : State) :
    execOp p t s = execPayload (commandOf p) p (withTimeout t s) := by
  obtain ⟨i, hd, hexec⟩ | ⟨r, hd, hexec⟩ := execOp_cases p t s
  · rw [hexec, exec_eq_execPayload, encode_of_decode hd, commandOf, hd]
  · rw [hexec, commandOf, hd]

/-- In IDLE an EXEC of a payload that is empty or too long is refused BadPayloadLength (R183). -/
theorem execPayload_badLength {cmd : Option Instr} {p : List Byte} {s : State} (h : s.eng = .idle)
    (hlen : p.length < 1 ∨ MAX_PAYLOAD < p.length) :
    execPayload cmd p s = .next (refuse .badPayloadLength s) := by
  simp only [execPayload, h]
  exact if_pos hlen

/-- The accepted step writes R90's Command frame and the registers of R184. -/
theorem transmit_eq_commandSent (cmd : Option Instr) {p : List Byte} (a : Word) (s : State)
    (h : p.length ≤ MAX_PAYLOAD) :
    transmit cmd p a s = commandSent cmd (frameOf a 1 p) s := by
  have hframe : frameBytes a .command p = frameOf a 1 p :=
    frameBytes_eq_frameOf a .command (by simp only [MAX_PAYLOAD] at h; omega)
  rw [← hframe]
  rfl

/-- EXEC at the head of the schedule is the step. -/
theorem step_exec {s : State} {p : List Byte} {t : Word} {rest : List Event}
    (h : s.sched = .host (.exec p t) :: rest) :
    step s = execPayload (commandOf p) p (withTimeout t (withSched rest s)) :=
  (step_cons h).trans (execOp_eq_execPayload p t (withSched rest s))

/-- Settles O20: the three refusals of `execPayload`, in the order of its tests. -/
theorem execAcceptanceTests : Obligations.ExecAcceptanceTests := by
  intro s p t rest hsched
  rw [step_exec hsched]
  exact ⟨fun hclosed => execPayload_closed hclosed, fun hwait => execPayload_wait hwait,
    fun hidle hlen => execPayload_badLength hidle hlen⟩

/-- Settles O21: EXEC is accepted, and what it transmits is `commandSent`. -/
theorem execAcceptedStep : Obligations.ExecAcceptedStep := by
  intro s p t a rest hsched hidle haddr h1 hmax
  have haccepted : step s = .next (transmit (commandOf p) p a (withTimeout t (withSched rest s))) :=
    (step_exec hsched).trans (execPayload_idle hidle haddr h1 hmax)
  rw [haccepted, transmit_eq_commandSent _ _ _ hmax]
  rfl

end Sys2Proof.Proofs
end

section
/-! SUPPORT. The RX step in WAIT with bytes to read (spec 42_engine_execute.md R186 to R188): one
equation per verdict of DECODE on the buffer, and the settlements of O32, O33 and O34. -/

namespace Sys2Proof.Proofs

open Sys2Proof Sys2Proof.Machine

/-! ## What an accepted frame leaves -/

theorem acceptFrame_of_nil {f : Frame} (h : f.payload = []) (s : State) :
    acceptFrame f s = endTransaction .malformed .emptyPayload
      { s with rxAddr := f.addr, rxKind := f.kind, rxLen := f.len,
               rxCsum := f.rxCsum, calcCsum := f.calcCsum, csumOk := f.csumOk } := by
  rw [acceptFrame, h]

theorem acceptFrame_of_cons {f : Frame} {b : Byte} {xs : List Byte} (h : f.payload = b :: xs)
    (s : State) :
    acceptFrame f s = endTransaction .response .none
      { s with rxAddr := f.addr, rxKind := f.kind, rxLen := f.len,
               rxCsum := f.rxCsum, calcCsum := f.calcCsum, csumOk := f.csumOk,
               stRaw := b, st := some (statusName s.cfg.statusTable b), extra := xs } := by
  rw [acceptFrame, h]

/-! ## The step -/

/-- An enabled RX entry settles the verdict on the buffer with the bytes read appended (R185). -/
theorem step_rx_of_verdict {s : State} {k : Nat} {rest : List Event} {v : Verdict}
    (hsched : s.sched = .rx k :: rest) (hwait : s.eng = .wait)
    (hrxq : s.rxq ≠ [])
    (hv : DECODE s.cfg.chkStrict (append s.rxbuf (s.rxq.take (readCount k s.rxq.length))) = v) :
    step s = .next (settleVerdict v (afterRead k (withSched rest s))) := by
  have hrx : step s = .next (rxStep k (withSched rest s)) := step_cons hsched
  have hread : rxStep k (withSched rest s) = _ :=
    rxStep_of_enabled (s := withSched rest s) ⟨hwait, hrxq⟩
  rw [hrx, hread, ← hv]
  rfl

/-- Settles O32: the verdict is a frame, and its payload decides what `acceptFrame` leaves. -/
theorem rxDeliversTheResponse : Obligations.RxDeliversTheResponse := by
  intro s k rest f hsched hwait hrxq hframe
  have hstep : step s = .next (acceptFrame f (afterRead k (withSched rest s))) :=
    step_rx_of_verdict hsched hwait hrxq hframe
  refine ⟨fun b xs hpayload => ?_, fun hpayload => ?_⟩
  · rw [hstep, acceptFrame_of_cons hpayload]
    rfl
  · rw [hstep, acceptFrame_of_nil hpayload]
    rfl

/-- Settles O33: the second case of O32, where the cleared results give ST_RAW, ST and EXTRA. -/
theorem rxEmptyPayloadIsMalformed : Obligations.RxEmptyPayloadIsMalformed := by
  intro s k rest f hsched hwait hclear hrxq hframe hpayload
  rw [(rxDeliversTheResponse s k rest f hsched hwait hrxq hframe).2 hpayload, hclear.stRaw,
    hclear.st, hclear.extra]

/-- Settles O34: the transaction ends with the code of DECODE's reason. -/
theorem rxMalformedEndsAtOnce : Obligations.RxMalformedEndsAtOnce := by
  intro s k rest d r hsched hwait hrxq hmalformed hreason
  have hr : r = d.reason := by
    obtain ⟨rfl, rfl⟩ | ⟨rfl, rfl⟩ | ⟨rfl, rfl⟩ := hreason <;> rfl
  rw [hr, step_rx_of_verdict hsched hwait hrxq hmalformed]
  rfl

end Sys2Proof.Proofs
end

section
/-! SUPPORT. The commands whose response has no layout (spec 43_commands.md R220 to R229): the payload a
command sends, HOST's reading of an ended transaction as one step, the reading of success and of failure,
and the settlements of O22, O23, O25, O26, O27, O28 and O29. -/

namespace Sys2Proof.Proofs

open Sys2Proof Sys2Proof.Machine Sys2Proof.Claims

/-! ## What a command sends (R184, R220) -/

theorem be16_eq_bytesOf2 (v : Half) : be16 v = bytesOf2 v.toNat := be16_eq_ofNat v

/-- Every command completes with the frame of its own encoding. -/
theorem sends_encode (i : Instr) : Sends i (encode i) := by
  intro s a hidle haddr
  have hmax : (encode i).length ≤ MAX_PAYLOAD := encode_length_le_max i
  rw [exec_eq_execPayload, execPayload_idle hidle haddr (encode_length i).1 hmax,
    transmit_eq_commandSent _ _ _ hmax]

theorem sends_of_encode_eq {i : Instr} {p : List Byte} (h : encode i = p) : Sends i p :=
  h ▸ sends_encode i

/-! ## HOST's reading of an ended transaction (R192, R220) -/

theorem readOutcomeOp_ended {s : State} (hopen : s.eng ≠ .closed) (hended : s.res ≠ .none) :
    readOutcomeOp s = { s with reply := .reading (readingOf s.lastCmd s) } := by
  have hdone : ¬ s.doneFlag = false := by simp [State.doneFlag, hended]
  rw [readOutcomeOp, if_neg hopen, if_neg hdone]

/-- HOST's reading of the outcome at the head of the schedule is the step. -/
theorem step_readOutcome {s : State} {rest : List Event}
    (h : s.sched = .host .readOutcome :: rest) :
    step s = .next (readOutcomeOp (withSched rest s)) :=
  step_cons h

/-- In an open session an ended transaction is read by the rule of the command that was sent. -/
theorem readsAs_of_readingOf {s : State} {i : Instr} {r : Reading} (hopen : s.eng ≠ .closed)
    (hcmd : s.lastCmd = some i) (hended : s.res ≠ .none) (hr : readingOf (some i) s = r) :
    ReadsAs s r := by
  intro rest hsched
  rw [step_readOutcome hsched, readOutcomeOp_ended (s := withSched rest s) hopen hended,
    ← hr, ← hcmd]
  rfl

/-! ## The cause of a failure (R248) -/

theorem causeOf_response {s : State} {n : Status} (hres : s.res = .response) (hst : s.st = some n) :
    causeOf s = .status n := by
  simp only [causeOf, hres, hst]

theorem causeOf_timedOut {s : State} (hres : s.res = .timedOut) : causeOf s = .timedOut := by
  simp only [causeOf, hres]

theorem causeOf_malformed {s : State} (hres : s.res = .malformed) : causeOf s = .malformed := by
  simp only [causeOf, hres]

theorem answered_status_unique {m n : Status} {s : State} (hm : Answered m s) (hn : Answered n s) :
    m = n :=
  Option.some.inj (hm.2.symm.trans hn.2)

theorem not_answered_of_res_ne {s : State} (hres : s.res ≠ .response) (n : Status) :
    ¬ Answered n s :=
  fun hn => hres hn.1

/-- A command's failures are read with their cause if its rule reads so every outcome that is no
response with a status of `except`. -/
theorem failuresRead_of_readingOf {i : Instr} {except : List Status}
    (h : ∀ s : State, (∀ n ∈ except, ¬ Answered n s) →
      readingOf (some i) s = .failure (causeOf s)) :
    FailuresRead i except := by
  intro s hopen hcmd
  have hreads : ∀ c, s.res ≠ .none → (∀ n ∈ except, ¬ Answered n s) → causeOf s = c →
      ReadsAs s (.failure c) := fun c hended hnone hc =>
    readsAs_of_readingOf hopen hcmd hended (by rw [h s hnone, hc])
  refine ⟨fun n hn hres hst => ?_, fun hres => ?_, fun hres => ?_⟩
  · have hnone : ∀ m ∈ except, ¬ Answered m s := fun m hm hans =>
      hn (answered_status_unique hans ⟨hres, hst⟩ ▸ hm)
    exact hreads _ (by simp [hres]) hnone (causeOf_response hres hst)
  · exact hreads _ (by simp [hres]) (fun m _ => not_answered_of_res_ne (by simp [hres]) m)
      (causeOf_timedOut hres)
  · exact hreads _ (by simp [hres]) (fun m _ => not_answered_of_res_ne (by simp [hres]) m)
      (causeOf_malformed hres)

/-! ## The reading of a response without a layout (R220d) -/

theorem okOutcome_iff (s : State) : okOutcome s = true ↔ Answered .ok s := decide_eq_true_iff

theorem readPlain_of_ok {s : State} (h : Answered .ok s) : readPlain s = .success :=
  if_pos ((okOutcome_iff s).2 h)

theorem readPlain_of_not_ok {s : State} (h : ¬ Answered .ok s) :
    readPlain s = .failure (causeOf s) :=
  if_neg (mt (okOutcome_iff s).1 h)

/-- A command that is read by `readPlain` has the plain reading. -/
theorem plainReading_of_readPlain {i : Instr} (h : ∀ s, readingOf (some i) s = readPlain s) :
    PlainReading i := by
  refine ⟨fun s hopen hcmd hres hst => ?_, failuresRead_of_readingOf fun s hnone => ?_⟩
  · exact readsAs_of_readingOf hopen hcmd (by simp [hres])
      ((h s).trans (readPlain_of_ok ⟨hres, hst⟩))
  · exact (h s).trans (readPlain_of_not_ok (hnone .ok (List.mem_singleton_self _)))

/-! ## The reading of capture-image (R222) -/

theorem readCaptureImage_of_noFinger {s : State} (h : Answered .noFingerDetected s) :
    readCaptureImage s = .noFingerYet :=
  if_pos h

theorem readCaptureImage_of_not_noFinger {s : State} (h : ¬ Answered .noFingerDetected s) :
    readCaptureImage s = readPlain s :=
  if_neg h

/-! ## The commands -/

/-- Settles O22: NoFingerDetected is tested first, every other outcome is read as plain. -/
theorem captureImageCommand : Obligations.CaptureImageCommand := by
  refine ⟨sends_encode .captureImage, fun s hopen hcmd hres => ⟨fun hok => ?_, fun hnoFinger => ?_⟩,
    failuresRead_of_readingOf fun s hnone => ?_⟩
  · have hnot : ¬ Answered .noFingerDetected s := fun hans =>
      absurd (answered_status_unique hans ⟨hres, hok⟩) (by decide)
    exact readsAs_of_readingOf hopen hcmd (by simp [hres])
      ((readCaptureImage_of_not_noFinger hnot).trans (readPlain_of_ok ⟨hres, hok⟩))
  · exact readsAs_of_readingOf hopen hcmd (by simp [hres])
      (readCaptureImage_of_noFinger ⟨hres, hnoFinger⟩)
  · exact (readCaptureImage_of_not_noFinger (hnone .noFingerDetected (by decide))).trans
      (readPlain_of_not_ok (hnone .ok (by decide)))

/-- Settles O23: the payload is the encoding as it stands, and the response is read as plain. -/
theorem imageToTemplateCommand : Obligations.ImageToTemplateCommand := fun slot =>
  ⟨sends_encode (.imageToTemplate slot), plainReading_of_readPlain fun _ => rfl⟩

/-- Settles O25: the payload is the encoding as it stands, and the response is read as plain. -/
theorem registerModelCommand : Obligations.RegisterModelCommand :=
  ⟨sends_encode .registerModel, plainReading_of_readPlain fun _ => rfl⟩

/-- Settles O26: the encoding with the location's bytes written as numbers, and the plain reading. -/
theorem storeModelCommand : Obligations.StoreModelCommand := fun slot location =>
  ⟨sends_of_encode_eq (by rw [encode, be16_eq_bytesOf2]),
    plainReading_of_readPlain fun _ => rfl⟩

/-- Settles O27: the encoding with the bytes of both operands written as numbers, and the plain
reading. -/
theorem deleteModelCommand : Obligations.DeleteModelCommand := fun location count =>
  ⟨sends_of_encode_eq (by rw [encode, be16_eq_bytesOf2, be16_eq_bytesOf2]),
    plainReading_of_readPlain fun _ => rfl⟩

/-- Settles O28: the payload is the encoding as it stands, and the response is read as plain. -/
theorem emptyDatabaseCommand : Obligations.EmptyDatabaseCommand :=
  ⟨sends_encode .emptyDatabase, plainReading_of_readPlain fun _ => rfl⟩

/-- Settles O29: the encoding with the password's bytes written as numbers, and the plain reading. -/
theorem verifyPasswordCommand : Obligations.VerifyPasswordCommand := fun password =>
  ⟨sends_of_encode_eq (by rw [encode, be32_eq_bytesOf4]),
    plainReading_of_readPlain fun _ => rfl⟩

end Sys2Proof.Proofs
end

section
/-! SUPPORT. Command payloads to and from bytes and table words (spec 30_encoding.md R99 to R102,
00_scope.md R13): the settlements of O1, O2, O3, O4 and O5. -/

namespace Sys2Proof.Proofs

open Sys2Proof Sys2Proof.Machine Sys2Proof.Claims

/-! ## Encoding and decoding (R99, R101) -/

theorem decode_encode (i : Instr) : decode (encode i) = .instr i := by
  cases i with
  | captureImage => rfl
  | imageToTemplate slot => rfl
  | search slot low high =>
    calc decode (encode (.search slot low high))
        = .instr (.search slot (u16At (be16 low) 0) (u16At (be16 high) 0)) := rfl
      _ = .instr (.search slot low high) := by rw [u16At_be16, u16At_be16]
  | registerModel => rfl
  | storeModel slot location =>
    calc decode (encode (.storeModel slot location))
        = .instr (.storeModel slot (u16At (be16 location) 0)) := rfl
      _ = .instr (.storeModel slot location) := by rw [u16At_be16]
  | deleteModel location count =>
    calc decode (encode (.deleteModel location count))
        = .instr (.deleteModel (u16At (be16 location) 0) (u16At (be16 count) 0)) := rfl
      _ = .instr (.deleteModel location count) := by rw [u16At_be16, u16At_be16]
  | emptyDatabase => rfl
  | verifyPassword password =>
    calc decode (encode (.verifyPassword password))
        = .instr (.verifyPassword (u32At (be32 password) 0)) := rfl
      _ = .instr (.verifyPassword password) := by rw [u32At_be32]
  | templateCount => rfl

/-- Settles O1: the operands are read back from their big-endian bytes. -/
theorem decodeOfEncode : Obligations.DecodeOfEncode := fun i _ => decode_encode i

/-- Settles O2: `decodeArgs` reads the operands from the very bytes `encode` writes. -/
theorem encodeOfDecode : Obligations.EncodeOfDecode := fun _ _ => encode_of_decode

/-! ## The opcode table's numbers (R13) -/

/-- The number of more bytes has the number read before in its upper part. -/
theorem foldl_bytes_shiftRight (p : List Byte) (a : Nat) :
    p.foldl (fun a b => a * 256 + b.toNat) a >>> (8 * p.length) = a := by
  induction p generalizing a with
  | nil => rfl
  | cons b p ih =>
    have hb := b.isLt
    rw [List.foldl_cons, List.length_cons, Nat.mul_add, Nat.shiftRight_add, ih,
      Nat.shiftRight_eq_div_pow]
    omega

/-- The low bytes of a number are the last bytes it was read from, whatever came before them. -/
theorem wordBytes_foldl (p : List Byte) (a : Nat) :
    wordBytes p.length (p.foldl (fun a b => a * 256 + b.toNat) a) = p := by
  induction p generalizing a with
  | nil => rfl
  | cons b p ih =>
    rw [List.length_cons, List.foldl_cons, wordBytes, foldl_bytes_shiftRight, ih]
    congr 1
    rw [BitVec.ofNat_add, BitVec.ofNat_mul, BitVec.ofNat_toNat, BitVec.setWidth_eq]
    simp

theorem wordBytes_bytesWord (p : List Byte) : wordBytes p.length (bytesWord p) = p :=
  wordBytes_foldl p 0

/-- A table word is read as the command its bytes spell, and as none otherwise. -/
theorem decodeTableWord_eq_some_iff {nbits w : Nat} {i : Instr} :
    decodeTableWord nbits w = some i ↔ decode (wordBytes (nbits / 8) w) = .instr i := by
  unfold decodeTableWord
  cases decode (wordBytes (nbits / 8) w) <;> simp

/-- Settles O3: the table's number has the payload as its bytes. -/
theorem tableWordRoundTrip : Obligations.TableWordRoundTrip := by
  intro i
  rw [decodeTableWord_eq_some_iff, Nat.mul_div_cancel_left _ (by decide), wordBytes_bytesWord,
    decode_encode]

/-- Settles O4: nine fixed words, evaluated. -/
theorem tableWordsDecode : Obligations.TableWordsDecode := by
  unfold Obligations.TableWordsDecode
  decide

/-! ## Payloads outside the nine formats (R102) -/

/-- The nine opcode bytes of R101. -/
def assignedOpcodes : List Byte := [0x01, 0x02, 0x04, 0x05, 0x06, 0x0C, 0x0D, 0x13, 0x1D]

/-- An opcode byte is rejected as unassigned, or it is one of the nine and the argument length is at
fault. -/
theorem decodeArgs_reject {op : Byte} {args : List Byte} {r : DecodeReject} :
    decodeArgs op args = .reject r →
      op ∈ assignedOpcodes ∧
        r = .wrongLength op ∨
      op ∉ assignedOpcodes ∧
        r = .unassignedOpcode op := by
  fun_cases decodeArgs op args <;> intro h <;> cases h
  case case19 h01 h02 h04 h05 h06 h0C h0D h13 h1D =>
    exact .inr ⟨by
      simp only [assignedOpcodes, List.mem_cons, List.not_mem_nil, *, or_self, not_false_eq_true],
      rfl⟩
  all_goals exact .inl ⟨by simp only [*]; decide, rfl⟩

/-- A payload that spells a command begins with one of the nine opcodes. -/
theorem opcode_of_decodeArgs {op : Byte} {args : List Byte} {i : Instr}
    (h : decodeArgs op args = .instr i) :
    op ∈ assignedOpcodes := by
  have hhead : (encode i).head? = some op := by rw [encode_of_decodeArgs h]; rfl
  cases i <;> cases hhead <;> decide

/-- Settles O5: an assigned opcode whose payload is no encoding can only be rejected, and then for its
length. -/
theorem otherPayloadsRejected : Obligations.OtherPayloadsRejected := by
  refine ⟨rfl, fun op args hop => ?_, fun op args hop hnone => ?_⟩
  · cases hd : decode (op :: args) with
    | instr i => exact absurd (opcode_of_decodeArgs hd) hop
    | reject r =>
      obtain ⟨hin, -⟩ | ⟨-, rfl⟩ := decodeArgs_reject hd
      · exact absurd hin hop
      · rfl
  · cases hd : decode (op :: args) with
    | instr i => exact absurd (encode_of_decode hd) (hnone i)
    | reject r =>
      obtain ⟨-, rfl⟩ | ⟨hnot, -⟩ := decodeArgs_reject hd
      · rfl
      · exact absurd hop hnot

end Sys2Proof.Proofs
end

section
/-! SUPPORT. ENCODE against DECODE, and what more bytes change (spec 40_codec_encode.md section 4,
41_codec_decode.md, 20_memory.md R66): the settlements of O11, O12, O15, O16 and O36. -/

namespace Sys2Proof.Proofs

open Sys2Proof Sys2Proof.Machine Sys2Proof.Claims

/-! ## DECODE of an encoded frame (R136, R137) -/

/-- A complete frame under the marker is read back, whatever follows it (R155 to R158). -/
theorem DECODE_headed_frame (strict : Bool) {a3 a2 a1 a0 k h l c1 c0 : Byte} {p t : List Byte}
    (hbody : 1 ≤ p.length + t.length) (hlen : p.length + 2 = (u16 h l).toNat)
    (hcsum : CSUM16 (k :: h :: l :: p) = u16 c1 c0) :
    DECODE strict (headed a3 a2 a1 a0 k h l (p ++ c1 :: c0 :: t)) = .frame
      { addr := u32 a3 a2 a1 a0, kind := k, len := u16 h l, payload := p,
        rxCsum := u16 c1 c0, calcCsum := u16 c1 c0, csumOk := true } := by
  have hsum : BitVec.ofNat 16 (k.toNat + h.toNat + l.toNat + sumOf p) = u16 c1 c0 := by
    rw [← hcsum, CSUM16_eq_ofNat_sumOf, sumOf_cons, sumOf_cons, sumOf_cons, Nat.add_assoc,
      Nat.add_assoc]
  have hagree := (ofNat_eq_u16_iff _ c1 c0).mp hsum
  rw [u16_toNat] at hlen
  have hthree : 3 ≤ (p ++ c1 :: c0 :: t).length := by
    simp only [List.length_append, List.length_cons]
    omega
  obtain ⟨-, hcomplete⟩ :=
    decodeCompleteFrame strict a3 a2 a1 a0 k h l _ hthree (by omega)
  obtain ⟨-, hframe⟩ := hcomplete p t c1 c0 rfl hlen
  rw [headed, hframe fun hmismatch => hmismatch.2 hagree, hsum, ← u32_eq_ofNat, ← u16_eq_ofNat,
    ← u16_eq_ofNat, decide_eq_true hagree]

/-- A frame is the marker, the other header bytes, the payload and the checksum's two bytes. -/
theorem frameBytes_append_eq_headed (a : Word) (k : Kind) (p t : List Byte) :
    frameBytes a k p ++ t =
      headed (a.extractLsb' 24 8) (a.extractLsb' 16 8) (a.extractLsb' 8 8) (a.extractLsb' 0 8)
        (kindCode k) ((BitVec.ofNat 16 (p.length + 2)).extractLsb' 8 8)
        ((BitVec.ofNat 16 (p.length + 2)).extractLsb' 0 8)
        (p ++ (frameCsum (kindCode k) (BitVec.ofNat 16 (p.length + 2)) p).extractLsb' 8 8 ::
          (frameCsum (kindCode k) (BitVec.ofNat 16 (p.length + 2)) p).extractLsb' 0 8 :: t) := by
  simp [frameBytes_eq_header, headed, be16]

/-- A frame that passes the length gate is read back, whatever follows it. -/
theorem DECODE_frameBytes_append (strict : Bool) (a : Word) (k : Kind) {p t : List Byte}
    (hp : p.length ≤ MAX_PAYLOAD) (h12 : 12 ≤ (frameBytes a k p ++ t).length) :
    DECODE strict (frameBytes a k p ++ t) = .frame
      { addr := a
        kind := BitVec.ofNat 8 (codeOf k)
        len := BitVec.ofNat 16 (p.length + 2)
        payload := p
        rxCsum := BitVec.ofNat 16 (checksumOf (codeOf k) p)
        calcCsum := BitVec.ofNat 16 (checksumOf (codeOf k) p)
        csumOk := true } := by
  have hfits : p.length + 2 < 65536 := by simp only [MAX_PAYLOAD] at hp; omega
  have hlen : p.length + 2 = (BitVec.ofNat 16 (p.length + 2)).toNat := by
    rw [BitVec.toNat_ofNat, Nat.mod_eq_of_lt hfits]
  have hbody : 1 ≤ p.length + t.length := by
    rw [List.length_append, frameBytes_length] at h12
    omega
  rw [frameBytes_append_eq_headed, DECODE_headed_frame strict hbody, u32_of_be32, u16_of_be16,
    u16_of_be16, frameCsum_eq_checksumOf k hfits, kindCode_eq_ofNat]
  · rwa [u16_of_be16]
  · rw [u16_of_be16]
    rfl

theorem ENCODE_eq_some_iff {a : Word} {k : Kind} {p f : List Byte} :
    ENCODE a k p = some f ↔ p.length ≤ MAX_PAYLOAD ∧ frameBytes a k p = f := by
  rcases Nat.lt_or_ge MAX_PAYLOAD p.length with h | h
  · simp [ENCODE_of_gt a k h, h]
  · simp [ENCODE_of_le a k h, h]

/-- Settles O12: `DECODE_frameBytes_append`; a frame has 11 bytes more than its payload. -/
theorem decodeOfEncodedFrame : Obligations.DecodeOfEncodedFrame := by
  intro strict a k p f hf
  obtain ⟨hp, rfl⟩ := ENCODE_eq_some_iff.mp hf
  refine ⟨fun t h12 => DECODE_frameBytes_append strict a k hp h12, fun h1 => ?_, fun hnil => ?_⟩
  · rw [frameBytes_length]
    omega
  · exact DECODE_of_length_lt (by rw [frameBytes_length, hnil]; decide)

theorem codeOf_injective {k k' : Kind} (h : BitVec.ofNat 8 (codeOf k) = BitVec.ofNat 8 (codeOf k')) :
    k = k' := by
  rw [← kindCode_eq_ofNat, ← kindCode_eq_ofNat] at h
  exact KindClass.known.inj ((kindClass_kindCode k).symm.trans (h ▸ kindClass_kindCode k'))

/-- Settles O11: one byte after the frame passes the length gate, and DECODE gives the operands
back. -/
theorem encodeIsInjective : Obligations.EncodeIsInjective := by
  intro a a' k k' p p' f hf hf'
  have h12 : 12 ≤ (f ++ [0]).length := by
    obtain ⟨-, rfl⟩ := ENCODE_eq_some_iff.mp hf
    rw [List.length_append, frameBytes_length, List.length_singleton]
    omega
  have hdecoded := ((decodeOfEncodedFrame false a k p f hf).1 [0] h12).symm.trans
    ((decodeOfEncodedFrame false a' k' p' f hf').1 [0] h12)
  simp only [Verdict.frame.injEq, Frame.mk.injEq] at hdecoded
  obtain ⟨ha, hk, -, hp, -⟩ := hdecoded
  exact ⟨ha, codeOf_injective hk, hp⟩

/-! ## More bytes (R161) -/

/-- Every test that led to a verdict reads bytes the shorter buffer has. -/
theorem DECODE_append_of_verdict {strict : Bool} {b : Memory} (t : List Byte)
    (hv : DECODE strict b ≠ .needMoreData) : DECODE strict (b ++ t) = DECODE strict b := by
  have h12 : MIN_DECODE ≤ b.length := Nat.le_of_not_lt fun hlt => hv (DECODE_of_length_lt hlt)
  have h12' : MIN_DECODE ≤ (b ++ t).length := by rw [List.length_append]; omega
  have hlong : 12 ≤ b.length := h12
  have hmark : (byteAt (b ++ t) 0 = 0xEF ∧ byteAt (b ++ t) 1 = 0x01) ↔
      (byteAt b 0 = 0xEF ∧ byteAt b 1 = 0x01) := by
    rw [byteAt_append_left t (by omega), byteAt_append_left t (by omega)]
  by_cases hm : byteAt b 0 = 0xEF ∧ byteAt b 1 = 0x01
  · rw [DECODE_of_marker h12 hm] at hv ⊢
    rw [DECODE_of_marker h12' (hmark.mpr hm), u16At_append_left t (by omega)]
    by_cases hlen : (u16At b 7).toNat < 2
    · rw [if_pos hlen, if_pos hlen]
    · have hend : ¬b.length < HDR_LEN + (u16At b 7).toNat := fun hshort =>
        hv (by rw [if_neg hlen, if_pos hshort])
      have hend' : ¬(b ++ t).length < HDR_LEN + (u16At b 7).toNat := by
        rw [List.length_append]; omega
      rw [if_neg hlen, if_neg hlen, if_neg hend, if_neg hend',
        extractFrame_append_left t h12 (by omega) (by omega)]
  · rw [DECODE_of_no_marker h12 hm, DECODE_of_no_marker h12' (mt hmark.mp hm)]

/-- Settles O15: a Frame or Malformed verdict is one that more bytes do not change. -/
theorem decodeIsMonotone : Obligations.DecodeIsMonotone :=
  fun _ _ t =>
    ⟨fun f hf => (DECODE_append_of_verdict t (by simp [hf])).trans hf,
      fun d hd => (DECODE_append_of_verdict t (by simp [hd])).trans hd⟩

/-! ## The fields of a frame as reads of the buffer (R14, R155) -/

theorem slice_eq_cons {b : Memory} {i n : Nat} (h : i < b.length) :
    slice b i (i + (n + 1)) = byteAt b i :: slice b (i + 1) (i + 1 + n) := by
  have hhead : b[i] = byteAt b i :=
    Option.some.inj ((List.getElem?_eq_getElem h).symm.trans (getElem?_eq_some_byteAt h))
  rw [slice, slice, Nat.add_sub_cancel_left, Nat.add_sub_cancel_left, List.drop_eq_getElem_cons h,
    List.take_succ_cons, hhead]

theorem slice_self (b : Memory) (i : Nat) : slice b i (i + 0) = [] := by
  simp [slice]

theorem memRead_one {b : Memory} {i : Nat} (h : i + 1 ≤ b.length) :
    memRead b i 1 = some (byteAt b i).toNat := by
  rw [memRead, if_pos ⟨by decide, h⟩, slice_eq_cons (by omega), slice_self]
  simp [bytesWord]

theorem memRead_two {b : Memory} {i : Nat} (h : i + 2 ≤ b.length) :
    memRead b i 2 = some (u16At b i).toNat := by
  rw [memRead, if_pos ⟨by decide, h⟩, slice_eq_cons (by omega), slice_eq_cons (by omega),
    slice_self, u16At, u16_toNat]
  simp [bytesWord]

theorem memRead_four {b : Memory} {i : Nat} (h : i + 4 ≤ b.length) :
    memRead b i 4 = some (u32At b i).toNat := by
  rw [memRead, if_pos ⟨by decide, h⟩, slice_eq_cons (by omega), slice_eq_cons (by omega),
    slice_eq_cons (by omega), slice_eq_cons (by omega), slice_self, u32At, u32_toNat]
  simp [bytesWord]

/-- Settles O16: `extractFrame` takes its fields at those offsets, and the declared length says that
they are within the buffer. -/
theorem decodedFieldsAreMemReads : Obligations.DecodedFieldsAreMemReads := by
  intro strict b f hf
  obtain ⟨rfl, h12, -, -, hlen, hend, hstrict⟩ := DECODE_frame hf
  have hpayload := extractFrame_payload_length hend
  simp only [MIN_DECODE, HDR_LEN] at h12 hend
  refine ⟨memRead_four (by omega), memRead_one (by omega), memRead_two (by omega),
    memRead_two ?_, ?_, hstrict, decide_eq_true_iff⟩
  · change 9 + (u16At b 7).toNat - 2 + 2 ≤ b.length
    omega
  · change _ = (u16At b 7).toNat
    omega

/-! ## Append (R66) -/

theorem append_eq_take {b : Memory} (s : List Byte) (h : b.length ≤ RX_CAP) :
    append b s = (b ++ s).take RX_CAP := by
  rw [append, List.take_append, List.take_of_length_le h]

/-- Settles O36: `append_eq_take`, and a byte held before is one of the first bytes. -/
theorem appendFillsToCapacity : Obligations.AppendFillsToCapacity := by
  intro b s h
  exact ⟨append_eq_take s h, append_wf s h, fun n hn => List.getElem?_append_left hn⟩

end Sys2Proof.Proofs
end

section
/-! SUPPORT. The commands whose response has a layout, the frame of all nine commands, and a command or
table word as the next step (spec 43_commands.md R220 to R229, 42_engine_execute.md R183, R184): the
settlements of O6, O7, O24, O30 and O31. -/

namespace Sys2Proof.Proofs

open Sys2Proof Sys2Proof.Machine Sys2Proof.Claims

/-! ## A command as the next step -/

theorem execOp_of_decode {p : List Byte} {i : Instr} (h : decode p = .instr i) (t : Word)
    (s : State) : execOp p t s = exec i (withTimeout t s) := by
  rw [execOp, h]

/-- Settles O6: the step runs HOST's EXEC, which is `exec` of the command the payload spells. -/
theorem stepRunsDecodedCommand : Obligations.StepRunsDecodedCommand :=
  fun s _ t rest _ hsched hdecode =>
    (step_cons hsched).trans (execOp_of_decode hdecode t (withSched rest s))

/-- The step takes a placed command off the schedule again. -/
theorem step_placePayload {p : List Byte} {i : Instr} (h : decode p = .instr i) (s : State) :
    step (placePayload p s) = exec i (openForCommand s) :=
  stepRunsDecodedCommand _ p _ _ i rfl h

theorem openForCommand_of_closed {s : State} (h : s.eng = .closed) :
    openForCommand s = openEffect s.cfg.sessionAddr s.cfg.sessionPwd s := by
  rw [openForCommand, h]

theorem openForCommand_of_ne_closed {s : State} (h : s.eng ≠ .closed) : openForCommand s = s := by
  unfold openForCommand
  cases he : s.eng with
  | closed => exact absurd he h
  | idle => rfl
  | wait => rfl

/-- Settles O7: the placed payload is the command's, and only CLOSED needs the OPEN. -/
theorem placedWordRunsNext : Obligations.PlacedWordRunsNext := by
  intro s nbits w i hword
  have hstep : step (s.withFetchWord nbits w) = exec i (openForCommand s) :=
    step_placePayload (decodeTableWord_eq_some_iff.mp hword) s
  rw [hstep]
  exact ⟨fun hopen => by rw [openForCommand_of_ne_closed hopen],
    fun hclosed => by rw [openForCommand_of_closed hclosed]⟩

/-! ## The frame of the nine commands -/

/-- Settles O31: a command is refused, or it transmits its own frame. -/
theorem commandsFrame : Obligations.CommandsFrame := by
  intro i s t ht
  obtain ⟨heng, hexec⟩ | ⟨heng, hexec⟩ | ⟨a, heng, haddr, hexec⟩ | ⟨heng, -, hexec⟩ :=
    exec_cases i s
  · obtain rfl : refuse .notOpen s = t := Host.Outcome.next.inj (hexec.symm.trans ht)
    exact ⟨fun _ => rfl, by simp [heng], by simp, by simp, by simp [heng]⟩
  · obtain rfl : refuse .busy s = t := Host.Outcome.next.inj (hexec.symm.trans ht)
    exact ⟨by simp [heng], fun _ => rfl, by simp, by simp, by simp [heng]⟩
  · obtain rfl : transmit (some i) (encode i) a s = t :=
      Host.Outcome.next.inj (hexec.symm.trans ht)
    have hframe : frameBytes a .command (encode i) = frameOf a 1 (encode i) :=
      frameBytes_eq_frameOf a .command (by have := (encode_length i).2; omega)
    refine ⟨by simp [heng], by simp [heng], by simp, fun n hn => ?_, fun _ =>
      ⟨a, haddr, by simp, fun n => ?_⟩⟩
    · rw [transmit_txlog, List.getElem?_append_left hn]
    · rw [transmit_txlog, hframe, List.getElem?_append_right (Nat.le_add_right _ _),
        Nat.add_sub_cancel_left]
  · exact absurd (hexec.symm.trans ht) (by simp)

/-! ## The layouts of the extras (R226, R229) -/

/-- The number of two bytes at an index, as the statements write it. -/
theorem u16At_eq_ofNat (b : Memory) (i : Nat) :
    u16At b i = BitVec.ofNat 16 ((byteAt b i).toNat * 256 + (byteAt b (i + 1)).toNat) :=
  u16_eq_ofNat _ _

theorem matchFields_of_four (e0 e1 e2 e3 : Byte) (more : List Byte) :
    matchFields (e0 :: e1 :: e2 :: e3 :: more) =
      some (BitVec.ofNat 16 (e0.toNat * 256 + e1.toNat),
        BitVec.ofNat 16 (e2.toNat * 256 + e3.toNat)) := by
  rw [matchFields, if_pos (by simp), u16At_eq_ofNat, u16At_eq_ofNat]
  rfl

theorem matchFields_of_short {extra : List Byte} (h : extra.length < 4) :
    matchFields extra = none :=
  if_neg (Nat.not_le.mpr h)

/-! ## The reading of search (R226) -/

section Search

variable {s : State}

theorem readSearch_of_match (hok : Answered .ok s) {m : Half × Half}
    (hm : matchFields s.extra = some m) : readSearch s = .matched m.1 m.2 := by
  simp only [readSearch, hok.1, hok.2, hm]

theorem readSearch_of_short (hok : Answered .ok s) (hshort : s.extra.length < 4) :
    readSearch s = .shortExtras := by
  simp only [readSearch, hok.1, hok.2, matchFields_of_short hshort]

theorem readSearch_of_not_ok {n : Status} (hn : n ≠ .ok) (hans : Answered n s) :
    readSearch s = .noMatch n := by
  simp only [readSearch, hans.1, hans.2]

theorem readSearch_of_no_response (hres : s.res ≠ .response) :
    readSearch s = .failure (causeOf s) := by
  cases h : s.res with
  | response => exact absurd h hres
  | none => simp only [readSearch, h]
  | timedOut => simp only [readSearch, h]
  | malformed => simp only [readSearch, h]

end Search

/-- Settles O24: the outcomes of search, through `readSearch`'s reading of each. -/
theorem searchCommand : Obligations.SearchCommand := by
  intro slot low high
  refine ⟨sends_of_encode_eq (by rw [encode, be16_eq_bytesOf2, be16_eq_bytesOf2]),
    fun s hopen hcmd => ?_⟩
  have hreads {r : Reading} (hended : s.res ≠ .none) (hr : readSearch s = r) : ReadsAs s r :=
    readsAs_of_readingOf hopen hcmd hended hr
  refine ⟨fun e0 e1 e2 e3 more hres hst hextra => ?_, fun hres hst hshort => ?_,
    fun n hn hres hst => ?_, fun hres => ?_, fun hres => ?_⟩
  · exact hreads (by simp [hres]) (readSearch_of_match ⟨hres, hst⟩
      (by rw [hextra, matchFields_of_four]))
  · exact hreads (by simp [hres]) (readSearch_of_short ⟨hres, hst⟩ hshort)
  · exact hreads (by simp [hres]) (readSearch_of_not_ok hn ⟨hres, hst⟩)
  · exact hreads (by simp [hres])
      ((readSearch_of_no_response (by simp [hres])).trans (by rw [causeOf_timedOut hres]))
  · exact hreads (by simp [hres])
      ((readSearch_of_no_response (by simp [hres])).trans (by rw [causeOf_malformed hres]))

/-! ## The reading of template-count (R229) -/

theorem readTemplateCount_of_ok {s : State} (hok : Answered .ok s) :
    readTemplateCount s =
      if 2 ≤ s.extra.length then .count (u16At s.extra 0) else .shortExtras :=
  if_pos ((okOutcome_iff s).2 hok)

theorem readTemplateCount_of_not_ok {s : State} (hnot : ¬ Answered .ok s) :
    readTemplateCount s = .failure (causeOf s) :=
  if_neg (mt (okOutcome_iff s).1 hnot)

/-- Settles O30: after Ok the length of the extras decides, every other end is a failure. -/
theorem templateCountCommand : Obligations.TemplateCountCommand := by
  refine ⟨sends_encode .templateCount, fun s hopen hcmd hres hst =>
    ⟨fun e0 e1 more hextra => ?_, fun hshort => ?_⟩, failuresRead_of_readingOf fun s hnone => ?_⟩
  · refine readsAs_of_readingOf hopen hcmd (by simp [hres])
      ((readTemplateCount_of_ok ⟨hres, hst⟩).trans ?_)
    rw [if_pos (by simp [hextra]), hextra, u16At_eq_ofNat]
    rfl
  · exact readsAs_of_readingOf hopen hcmd (by simp [hres])
      ((readTemplateCount_of_ok ⟨hres, hst⟩).trans (if_neg (Nat.not_le.mpr hshort)))
  · exact readTemplateCount_of_not_ok (hnone .ok (List.mem_singleton_self _))

end Sys2Proof.Proofs
end

section
/-! SUPPORT. The steps that wait, count and reset, the register reads, cancellation, and events of one
cycle (spec 42_engine_execute.md R185, R189, 10_state.md R32, R33, 60_exceptions.md R290,
70_reset_and_hazards.md R320): the settlements of O35, O37, O38, O39, O40, O41, O42, O59 and O60. -/

namespace Sys2Proof.Proofs

open Sys2Proof Sys2Proof.Machine Sys2Proof.Claims

/-! ## RX and TICK at the head of the schedule -/

theorem step_rx {s : State} {k : Nat} {rest : List Event} (h : s.sched = .rx k :: rest) :
    step s = .next (rxStep k (withSched rest s)) :=
  step_cons h

theorem step_tick {s : State} {rest : List Event} (h : s.sched = .tick :: rest) :
    step s = .next (tickHost (tickBlock (withSched rest s))) :=
  step_cons h

/-- Settles O35: NeedMoreData leaves the state after the read; an entry that is not enabled is no
read. -/
theorem rxWaitsOrIsNotEnabled : Obligations.RxWaitsOrIsNotEnabled := by
  intro s k rest hsched
  refine ⟨fun hwait hrxq hmore => step_rx_of_verdict hsched hwait hrxq hmore, fun hnot => ?_⟩
  have hdisabled : ¬((withSched rest s).eng = .wait ∧ (withSched rest s).rxq ≠ []) :=
    fun ⟨hwait, hrxq⟩ => hnot.elim (fun h => h hwait) hrxq
  rw [step_rx hsched, rxStep_of_not_enabled hdisabled]
  rfl

theorem tickBlock_of_ne_wait {s : State} (h : s.eng ≠ .wait) : tickBlock s = s := by
  obtain ⟨-, e⟩ | ⟨hwait, -⟩ | ⟨hwait, -⟩ := tickBlock_cases s
  · exact e
  · exact absurd hwait h
  · exact absurd hwait h

theorem tickBlock_of_expired {s : State} (h : s.eng = .wait) (ht : s.tmo ≤ s.timer + 1) :
    tickBlock s = endTransaction .timedOut .none { s with timer := s.timer + 1 } := by
  obtain ⟨hnot, -⟩ | ⟨-, -, e⟩ | ⟨-, hlt, -⟩ := tickBlock_cases s
  · exact absurd h hnot
  · exact e
  · exact absurd ht hlt

theorem tickBlock_of_counting {s : State} (h : s.eng = .wait) (ht : ¬ s.tmo ≤ s.timer + 1) :
    tickBlock s = { s with timer := s.timer + 1 } := by
  obtain ⟨hnot, -⟩ | ⟨-, hle, -⟩ | ⟨-, -, e⟩ := tickBlock_cases s
  · exact absurd h hnot
  · exact absurd hle ht
  · exact e

/-- Settles O37: the three cases of `tickBlock`. -/
theorem tickCountsAndExpires : Obligations.TickCountsAndExpires := by
  intro s rest hsched
  refine ⟨fun hwait hle => ?_, fun hwait hlt => ?_, fun hnot => ?_⟩
  · rw [step_tick hsched, tickBlock_of_expired (s := withSched rest s) hwait hle]
    rfl
  · rw [step_tick hsched,
      tickBlock_of_counting (s := withSched rest s) hwait (Nat.not_le.mpr hlt)]
    rfl
  · rw [step_tick hsched, tickBlock_of_ne_wait (s := withSched rest s) hnot]
    rfl

/-! ## Reset (R320, R33) -/

/-- Settles O39: `resetBlock` writes these registers and no other. -/
theorem resetEvent : Obligations.ResetEvent := fun s rest hsched => by
  have hstep : step s = .next (resetBlock (withSched rest s)) := step_cons hsched
  rw [hstep]
  rfl

/-- Settles O40: each register of `State.reset` is written out in `State.initial`. -/
theorem resetState : Obligations.ResetState :=
  ⟨rfl, rfl, rfl, rfl, rfl, rfl, rfl, rfl, rfl, rfl, rfl, rfl, rfl, rfl, rfl, rfl, rfl, rfl, rfl,
    rfl, rfl, rfl⟩

theorem commandLog_nil : CommandLog [] := ⟨[], by simp, rfl⟩

/-- With every result cleared, no byte in RXBUF and TIMER at 0, only the session registers and the logs
are left to show. -/
theorem blockInv_of_clear {s : State} (hclear : s.ResultsClear) (hbuf : s.rxbuf = [])
    (htimer : s.timer = 0) (haddr : s.eng = .closed ↔ s.addr = none)
    (hpwd : s.eng = .closed ↔ s.pwd = none) (hlog : CommandLog s.txlog)
    (hparked : ∀ t ∈ s.parked, CommandLog t.txlog) : s.BlockInv where
  rxCap := hbuf ▸ memory_wf_nil
  waitClear := fun _ => hclear
  waitTimer := fun _ => by simp [htimer]
  waitBuffer := fun _ => by rw [hbuf]; exact DECODE_of_length_lt (by decide)
  reason := by simp [hclear.res, hclear.mreason]
  responseLen := by simp [hclear.res]
  responseStatus := by simp [hclear.res]
  noResponse := fun _ => ⟨hclear.stRaw, hclear.st, hclear.extra⟩
  strict := by simp [hclear.res]
  closedAddr := haddr
  closedPwd := hpwd
  log := hlog
  parkedLog := hparked

theorem initial_blockInv (cfg : Config) (rxq : List Byte) : (State.initial cfg rxq).BlockInv :=
  blockInv_of_clear ⟨rfl, rfl, rfl, rfl, rfl, rfl, rfl, rfl, rfl, rfl, rfl⟩ rfl rfl
    ⟨fun _ => rfl, fun _ => rfl⟩ ⟨fun _ => rfl, fun _ => rfl⟩ commandLog_nil (by simp [State.initial])

theorem initial_inv (cfg : Config) (rxq : List Byte) : (State.initial cfg rxq).Inv :=
  ⟨initial_blockInv cfg rxq, by simp [State.initial]⟩

/-- Settles O42: in every initial state the block is CLOSED, its registers are cleared and no sequence
runs. -/
theorem invariantAtReset : Obligations.InvariantAtReset :=
  ⟨initial_inv Config.atReset [], initial_inv⟩

/-! ## Register reads (R32) -/

theorem step_read {s : State} {r : Reg} {rest : List Event} (h : s.sched = .host (.read r) :: rest) :
    step s = .next (readReg r (withSched rest s)) :=
  step_cons h

theorem alwaysReadable_eq_false_iff (r : Reg) :
    alwaysReadable r = false ↔ r ≠ .eng ∧ r ≠ .busy ∧ r ≠ .done := by
  cases r <;> decide

theorem readReg_refused {r : Reg} {s : State} (hclosed : s.eng = .closed)
    (hr : alwaysReadable r = false) : readReg r s = refuse .notOpen s :=
  if_pos ⟨hclosed, hr⟩

theorem readReg_value {r : Reg} {s : State} (h : ¬(s.eng = .closed ∧ alwaysReadable r = false)) :
    readReg r s = { s with reply := .value (regValue s r) } :=
  if_neg h

/-- Settles O41: a read is refused or gives `regValue`, register by register the value named. -/
theorem registerReads : Obligations.RegisterReads := by
  intro s r rest hsched
  rw [step_read hsched]
  refine ⟨fun hclosed heng hbusy hdone => ?_, fun hreadable => ?_⟩
  · rw [readReg_refused (s := withSched rest s) hclosed
      ((alwaysReadable_eq_false_iff r).mpr ⟨heng, hbusy, hdone⟩)]
    rfl
  · have hread : ¬((withSched rest s).eng = .closed ∧ alwaysReadable r = false) := by
      rw [alwaysReadable_eq_false_iff]
      rintro ⟨hclosed, heng, hbusy, hdone⟩
      exact hreadable.elim (· hclosed) (·.elim heng (·.elim hbusy hdone))
    rw [readReg_value hread]
    cases r with
    | eng => cases heng : s.eng <;> simp [regValue, heng, withSched, Eng.code]
    | res => cases hres : s.res <;> simp [regValue, hres, withSched, Res.code]
    | mreason => cases hm : s.mreason <;> simp [regValue, hm, withSched, MReason.code]
    | addr => cases ha : s.addr <;> simp [regValue, ha, withSched, optBits]
    | pwd => cases hp : s.pwd <;> simp [regValue, hp, withSched, optBits]
    | st => cases hst : s.st <;> simp [regValue, hst, withSched]
    | busy => cases heng : s.eng <;> simp [regValue, heng, withSched, State.busy, flagValue]
    | done => cases hres : s.res <;> simp [regValue, hres, withSched, State.doneFlag, flagValue]
    | exlen => simp [regValue, withSched, State.exlen]
    | _ => rfl

/-! ## Cancellation (R251) -/

/-- Settles O59: `cancelOp` refuses in WAIT only. -/
theorem cancelBetweenCommands : Obligations.CancelBetweenCommands := by
  intro s rest hsched
  have hstep : step s = .next (cancelOp (withSched rest s)) := step_cons hsched
  rw [hstep]
  exact ⟨fun hnot => congrArg Host.Outcome.next (if_neg hnot),
    fun hwait => congrArg Host.Outcome.next (if_pos hwait)⟩

/-! ## Runs of several steps -/

/-- A run is its first step and the run from there. -/
theorem core_run_succ {M : Host.Core} {s s' : M.State} (h : M.step s = .next s') (n : Nat) :
    M.run (n + 1) s = M.run n s' := by
  rw [Host.Core.run, h]

theorem run_of_step {s s' : State} {n : Nat} {r : Result} (h : step s = .next s')
    (hrun : Host.Core.run core n s' = r) : Host.Core.run core (n + 1) s = r :=
  (core_run_succ (M := core) h n).trans hrun

/-! ## A short timeout (R189, R190) -/

theorem DECODE_ackOk (strict : Bool) :
    DECODE strict ackOk = .frame ⟨0xFFFFFFFF, 0x07, 3, [0x00], 0x000A, 0x000A, true⟩ := by
  cases strict <;> decide

theorem step_device {s : State} {b : List Byte} {rest : List Event}
    (h : s.sched = .device b :: rest) : step s = .next (deviceSends b (withSched rest s)) :=
  step_cons h

/-- In WAIT with an empty RXQ and RXBUF, an acknowledgement that arrives and is read before a TICK ends
the transaction, and the TICK finds IDLE. -/
theorem run_ackOk_before_tick {s : State} {rest : List Event}
    (hsched : s.sched = .device ackOk :: .rx 12 :: .tick :: rest) (hwait : s.eng = .wait)
    (hrxq : s.rxq = []) (hbuf : s.rxbuf = []) :
    ∃ u : State, Host.Core.run core 3 s = .next u ∧ u.eng = .idle ∧ u.res = .response ∧
      u.stRaw = 0 ∧ u.timer = s.timer ∧ u.tmo = s.tmo ∧ u.sched = rest := by
  have hdevice := step_device hsched
  have hread : append s.rxbuf ((s.rxq ++ ackOk).take (min (max 12 1) (s.rxq ++ ackOk).length)) =
      ackOk := by rw [hbuf, hrxq]; rfl
  have hrx := (rxDeliversTheResponse
    (deviceSends ackOk (withSched (.rx 12 :: .tick :: rest) s)) 12 (.tick :: rest) _ rfl hwait
    (by simp [ackOk]) (hread ▸ DECODE_ackOk s.cfg.chkStrict)).1 0x00 [] rfl
  refine ⟨_, run_of_step hdevice (run_of_step hrx (run_of_step (step_tick rfl) rfl)), ?_⟩
  rw [tickBlock_of_ne_wait (by simp)]
  exact ⟨rfl, rfl, rfl, rfl, rfl, rfl⟩

/-- Settles O38: the first TICK makes TIMER 1, at least TMO; and a TICK after the response was read
finds IDLE. -/
theorem timeoutOfZeroOrOne : Obligations.TimeoutOfZeroOrOne := by
  intro s p t a rest hidle haddr h1 hmax ht
  have haccepted {more : List Event} (hsched : s.sched = .host (.exec p t) :: more) :=
    execAcceptedStep s p t a more hsched hidle haddr h1 hmax
  refine ⟨fun hsched => ?_, fun hsched => ?_⟩
  · have hle : t ≤ (0 : Word) + 1 := by obtain rfl | rfl := ht <;> decide
    refine ⟨_, run_of_step (haccepted hsched) (run_of_step (step_tick rfl) rfl), ?_⟩
    rw [tickBlock_of_expired rfl hle]
    exact ⟨rfl, rfl, rfl, rfl, rfl, rfl⟩
  · obtain ⟨u, hrun, hend⟩ := run_ackOk_before_tick
      (s := commandSent (commandOf p) (frameOf a 1 p) { s with sched := _, opTimeout := t })
      rfl rfl rfl rfl
    exact ⟨u, run_of_step (haccepted hsched) hrun, hend⟩

/-! ## The events of one cycle (R290) -/

theorem Cycle.events_eq (c : Cycle) :
    c.events = (if c.reset = true then [.reset] else []) ++ (c.op.map Event.host).toList ++
      (c.rx.map Event.rx).toList ++ (if c.tick = true then [.tick] else []) := by
  obtain ⟨reset, op, rx, tick⟩ := c
  cases op <;> cases rx <;> rfl

theorem step_sameCycle {s : State} {c : Cycle} {rest : List Event}
    (h : s.sched = .sameCycle c :: rest) : step s = .next { s with sched := c.events ++ rest } :=
  step_cons h

@[simp] theorem settleVerdict_sched (v : Verdict) (s : State) :
    (settleVerdict v s).sched = s.sched := by
  obtain ⟨-, e⟩ | ⟨d, -, e⟩ | ⟨f, -, -, e⟩ | ⟨f, b, xs, -, -, e⟩ := settleVerdict_cases v s <;>
    rw [e] <;> rfl

theorem settleVerdict_eng_idle {v : Verdict} (hv : v ≠ .needMoreData) (s : State) :
    (settleVerdict v s).eng = .idle := by
  obtain ⟨hmore, -⟩ | ⟨d, -, e⟩ | ⟨f, -, -, e⟩ | ⟨f, b, xs, -, -, e⟩ := settleVerdict_cases v s
  · exact absurd hmore hv
  all_goals rw [e]; rfl

/-- In a cycle whose RX entry ends the transaction, the TICK leaves the block as RX left it. -/
theorem run_cycle_rx_tick {s : State} {k : Nat} {rest : List Event} {v : Verdict}
    (hsched : s.sched = .sameCycle ⟨false, none, some k, true⟩ :: rest) (hwait : s.eng = .wait)
    (hrxq : s.rxq ≠ [])
    (hv : DECODE s.cfg.chkStrict (append s.rxbuf (s.rxq.take (min (max k 1) s.rxq.length))) = v)
    (hend : v ≠ .needMoreData) :
    Host.Core.run core 3 s = .next (tickHost (withSched rest
      (settleVerdict v (afterRead k (withSched (.tick :: rest) s))))) := by
  have hrx : step { s with sched := .rx k :: .tick :: rest } =
      .next (settleVerdict v (afterRead k (withSched (.tick :: rest) s))) :=
    step_rx_of_verdict rfl hwait hrxq hv
  have hidle := settleVerdict_eng_idle hend (afterRead k (withSched (.tick :: rest) s))
  have hnot : (withSched rest
      (settleVerdict v (afterRead k (withSched (.tick :: rest) s)))).eng ≠ .wait := by
    rw [withSched_eng, hidle]
    simp
  have htick : step (settleVerdict v (afterRead k (withSched (.tick :: rest) s))) = _ :=
    step_tick (settleVerdict_sched _ _)
  rw [tickBlock_of_ne_wait hnot] at htick
  exact run_of_step (step_sameCycle hsched) (run_of_step hrx (run_of_step htick rfl))

/-- Settles O60: the cycle puts its events first, in their order; HOST's EXEC then finds WAIT, and the
TICK after an RX that ends the transaction finds IDLE. -/
theorem cycleOrder : Obligations.CycleOrder := by
  refine ⟨fun s c rest hsched => ?_, fun s p w r tick rest hsched hwait => ?_,
    fun s k rest hsched hwait hrxq => ⟨fun f b xs hframe hpayload => ?_,
      fun f hframe hpayload => ?_, fun d r hmalformed hreason => ?_⟩⟩
  · rw [step_sameCycle hsched, Cycle.events_eq]
  · have hcycle := step_sameCycle hsched
    rw [Cycle.events_eq] at hcycle
    exact run_of_step hcycle (run_of_step ((execAcceptanceTests _ p w _ rfl).2.1 hwait) rfl)
  · refine ⟨_, run_cycle_rx_tick hsched hwait hrxq hframe (by simp), ?_⟩
    rw [settleVerdict, acceptFrame_of_cons hpayload]
    exact ⟨rfl, rfl, rfl, rfl, rfl, rfl⟩
  · refine ⟨_, run_cycle_rx_tick hsched hwait hrxq hframe (by simp), ?_⟩
    rw [settleVerdict, acceptFrame_of_nil hpayload]
    exact ⟨rfl, rfl, rfl, rfl, rfl⟩
  · refine ⟨_, run_cycle_rx_tick hsched hwait hrxq hmalformed (by simp), ?_⟩
    obtain ⟨rfl, rfl⟩ | ⟨rfl, rfl⟩ | ⟨rfl, rfl⟩ := hreason <;> exact ⟨rfl, rfl, rfl, rfl, rfl⟩

end Sys2Proof.Proofs
end

section
/-! SUPPORT. What one step can do to the block and its transport, said once over every event (spec
00_scope.md R10, 42_engine_execute.md section 6): the ten ways the block moves, and that every step is
one of them. -/

namespace Sys2Proof.Proofs

open Sys2Proof Sys2Proof.Machine Sys2Proof.Claims

/-! ## The block without HOST -/

/-- The parameters, the block and its transports: the state with HOST's records and the schedule
blanked. -/
def blockOf (s : State) : State :=
  { s with
    reply := .none, lastCmd := none, seq := none, result := none, opTimeout := 0, sched := [] }

theorem fields_of_block_eq {s t : State} (h : blockOf t = blockOf s) :
    t.cfg = s.cfg ∧ t.eng = s.eng ∧ t.addr = s.addr ∧ t.pwd = s.pwd ∧ t.rxbuf = s.rxbuf ∧
      t.rxq = s.rxq ∧ t.txlog = s.txlog ∧ t.parked = s.parked :=
  ⟨(congrArg State.cfg h :), (congrArg State.eng h :), (congrArg State.addr h :),
    (congrArg State.pwd h :), (congrArg State.rxbuf h :), (congrArg State.rxq h :),
    (congrArg State.txlog h :), (congrArg State.parked h :)⟩

/-- What an enabled RX step leaves: the verdict on the buffer after the read, settled (R185). -/
def afterRx (k : Nat) (s : State) : State :=
  settleVerdict (DECODE s.cfg.chkStrict (afterRead k s).rxbuf) (afterRead k s)

theorem rxStep_eq_afterRx {k : Nat} {s : State} (h : s.eng = .wait ∧ s.rxq ≠ []) :
    rxStep k s = afterRx k s :=
  rxStep_of_enabled h

/-- What an event `e` can make of the block in `s`; each case names the events that do it. -/
inductive Moves (e : Event) (s : State) : State → Prop
  | stays : Moves e s s
  | opens (a p : Word) (he : e = .host (.openSession a p)) (hclosed : s.eng = .closed) :
      Moves e s (openEffect a p s)
  | closes (he : e = .host .closeSession ∨ e = .host .turn) (hidle : s.eng = .idle) :
      Moves e s (closeOp s)
  | sends (cmd : Option Instr) (p : List Byte) (a w : Word)
      (he : e = .host (.exec p w) ∨ e = .host .turn) (hidle : s.eng = .idle)
      (haddr : s.addr = some a) (h1 : 1 ≤ p.length) (hmax : p.length ≤ MAX_PAYLOAD) :
      Moves e s (transmit cmd p a (withTimeout w s))
  | attaches (c : TransportConfig) (he : e = .host (.attach c)) (hclosed : s.eng = .closed) :
      Moves e s (attachTransport c s)
  | discovers (c : TransportConfig) (a p : Word) (he : e = .host .turn) (hclosed : s.eng = .closed) :
      Moves e s (openEffect a p (attachTransport c s))
  | reads (k : Nat) (he : e = .rx k) (hwait : s.eng = .wait) (hrxq : s.rxq ≠ []) :
      Moves e s (afterRx k s)
  | ticks (he : e = .tick) : Moves e s (tickBlock s)
  | device (b : List Byte) (he : e = .device b) : Moves e s (deviceSends b s)
  | resets (he : e = .reset) : Moves e s (resetBlock s)

/-- The block of `t` is what the event can make of the block in `s`. -/
def MovesTo (e : Event) (s t : State) : Prop := ∃ u, Moves e s u ∧ blockOf t = blockOf u

theorem movesTo_of_same_block {e : Event} {s t : State} (h : blockOf t = blockOf s) :
    MovesTo e s t :=
  ⟨s, .stays, h⟩

/-! ## EXEC and HOST's turns -/

theorem blockOf_advance (q : Sequence) (s : State) : blockOf (advance q s) = blockOf s := by
  rw [advance_eq]
  rfl

theorem execOp_movesTo {p : List Byte} {w : Word} {s t : State} (h : execOp p w s = .next t) :
    MovesTo (.host (.exec p w)) s t := by
  rw [execOp_eq_execPayload] at h
  obtain ⟨-, e⟩ | ⟨-, e⟩ | ⟨-, -, e⟩ | ⟨a, hidle, h1, hmax, haddr, e⟩ | ⟨-, -, -, -, e⟩ :=
    execPayload_cases (commandOf p) p (withTimeout w s) <;> rw [e] at h <;> cases h
  · exact movesTo_of_same_block rfl
  · exact movesTo_of_same_block rfl
  · exact movesTo_of_same_block rfl
  · exact ⟨_, .sends (commandOf p) p a w (.inl rfl) hidle haddr h1 hmax, rfl⟩

theorem issueTurn_movesTo {q : Sequence} {s t : State} (h : issueTurn q s = .next t) :
    MovesTo (.host .turn) s t := by
  obtain ⟨-, e⟩ | ⟨-, -, e⟩ | ⟨i, -, -, e⟩ | ⟨i, a, hidle, -, haddr, e⟩ | ⟨i, -, -, -, e⟩ :=
    issueTurn_cases q s <;> rw [e] at h <;> cases h
  · exact movesTo_of_same_block rfl
  · exact movesTo_of_same_block rfl
  · exact movesTo_of_same_block rfl
  · exact ⟨_, .sends (some i) (encode i) a (q.task.timeout s.cfg) (.inr rfl) hidle haddr
      (encode_length i).1 (encode_length_le_max i), rfl⟩

theorem attachTurn_movesTo (q : Sequence) (s : State) :
    MovesTo (.host .turn) s (attachTurn q s) := by
  obtain e | ⟨-, e⟩ | ⟨c, left, -, hclosed, e⟩ | ⟨-, e⟩ := attachTurn_cases q s <;> rw [e]
  · exact movesTo_of_same_block rfl
  · exact movesTo_of_same_block rfl
  · exact ⟨_, .discovers (candidateTransport s.cfg c) s.cfg.sessionAddr s.cfg.sessionPwd rfl hclosed,
      rfl⟩
  · exact movesTo_of_same_block rfl

theorem closeTurn_movesTo (q : Sequence) (s : State) : MovesTo (.host .turn) s (closeTurn q s) := by
  obtain ⟨hidle, e⟩ | ⟨-, r, e⟩ := closeTurn_cases q s <;> rw [e]
  · exact ⟨_, .closes (.inr rfl) hidle, by rw [closeOp_idle hidle]; rfl⟩
  · exact movesTo_of_same_block rfl

theorem awaitTurn_movesTo (q : Sequence) (s : State) : MovesTo (.host .turn) s (awaitTurn q s) := by
  obtain ⟨-, e⟩ | ⟨-, -, e⟩ | ⟨-, -, e⟩ := awaitTurn_cases q s <;> rw [e]
  · exact movesTo_of_same_block rfl
  · exact movesTo_of_same_block rfl
  · exact movesTo_of_same_block (blockOf_advance q s)

theorem hostTurn_movesTo {s t : State} (h : hostTurn s = .next t) : MovesTo (.host .turn) s t := by
  obtain e | ⟨q, -, -, e⟩ | ⟨q, -, -, e⟩ | ⟨q, -, -, e⟩ | ⟨q, -, -, e⟩ := hostTurn_cases s <;>
    rw [e] at h
  · cases h
    exact movesTo_of_same_block rfl
  · cases h
    exact attachTurn_movesTo q s
  · exact issueTurn_movesTo h
  · cases h
    exact awaitTurn_movesTo q s
  · cases h
    exact closeTurn_movesTo q s

/-! ## HOST's operations and every event -/

theorem hostOp_movesTo {op : HostOp} {s t : State} (h : hostOp op s = .next t) :
    MovesTo (.host op) s t := by
  cases op with
  | openSession a p =>
    cases h
    obtain ⟨hclosed, e⟩ | ⟨-, e⟩ := openOp_cases a p s <;> rw [e]
    · exact ⟨_, .opens a p rfl hclosed, rfl⟩
    · exact movesTo_of_same_block rfl
  | closeSession =>
    cases h
    obtain ⟨-, e⟩ | ⟨-, e⟩ | ⟨hidle, -⟩ := closeOp_cases s
    · rw [e]; exact movesTo_of_same_block rfl
    · rw [e]; exact movesTo_of_same_block rfl
    · exact ⟨_, .closes (.inl rfl) hidle, rfl⟩
  | exec p w => exact execOp_movesTo h
  | read r => cases h; rw [readReg_eq]; exact movesTo_of_same_block rfl
  | readOutcome => cases h; rw [readOutcomeOp_eq]; exact movesTo_of_same_block rfl
  | encodeFrame a k p => cases h; rw [encodeOp_eq]; exact movesTo_of_same_block rfl
  | decodeFrame b => cases h; exact movesTo_of_same_block rfl
  | csum16 b => cases h; exact movesTo_of_same_block rfl
  | attach c =>
    cases h
    obtain ⟨hclosed, e⟩ | ⟨-, e⟩ := attachOp_cases c s <;> rw [e]
    · exact ⟨_, .attaches c rfl hclosed, rfl⟩
    · exact movesTo_of_same_block rfl
  | start r =>
    obtain ⟨-, e⟩ | ⟨-, -, e⟩ | ⟨-, x, -, e⟩ := startOp_cases r s <;>
      cases e.symm.trans h <;> exact movesTo_of_same_block rfl
  | turn => exact hostTurn_movesTo h
  | cancel =>
    cases h
    rw [cancelOp]
    split <;> exact movesTo_of_same_block rfl

theorem rxStep_movesTo (k : Nat) (s : State) : MovesTo (.rx k) s (rxStep k s) := by
  by_cases hen : s.eng = .wait ∧ s.rxq ≠ []
  · rw [rxStep_eq_afterRx hen]
    exact ⟨_, .reads k rfl hen.1 hen.2, rfl⟩
  · rw [rxStep_of_not_enabled hen]
    exact movesTo_of_same_block rfl

theorem runEvent_movesTo {e : Event} {s t : State} (h : runEvent e s = .next t) :
    MovesTo e s t := by
  cases e with
  | host op => exact hostOp_movesTo h
  | rx k => cases h; exact rxStep_movesTo k s
  | tick => cases h; exact ⟨_, .ticks rfl, rfl⟩
  | device b => cases h; exact ⟨_, .device b rfl, rfl⟩
  | reset => cases h; exact ⟨_, .resets rfl, rfl⟩
  | sameCycle c => cases h; exact movesTo_of_same_block rfl

/-- The inversion of a step: its event's move, from the state with the schedule moved on. -/
theorem step_movesTo {s t : State} {e : Event} {rest : List Event} (hsched : s.sched = e :: rest)
    (h : step s = .next t) : MovesTo e (withSched rest s) t :=
  runEvent_movesTo ((step_cons hsched).symm.trans h)

/-- A step has an empty schedule and leaves the state, or moves the block as its event can. -/
theorem step_same_or_movesTo {s t : State} (h : step s = .next t) :
    t = s ∨ ∃ e rest, MovesTo e (withSched rest s) t := by
  obtain ⟨-, rfl⟩ | ⟨e, rest, -, hrun⟩ := step_next_cases h
  · exact .inl rfl
  · exact .inr ⟨e, rest, runEvent_movesTo hrun⟩

end Sys2Proof.Proofs
end

section
/-! SUPPORT. The invariant along every step (spec 10_state.md R36, R38): the block's part move by move,
ATT through HOST's turns, and the settlements of O43 and O44. -/

namespace Sys2Proof.Proofs

open Sys2Proof Sys2Proof.Machine Sys2Proof.Claims

/-! ## What the block's invariant depends on -/

/-- The block of `s` with an empty RXQ: the invariant says nothing of the bytes on their way. -/
def registersOf (s : State) : State := { blockOf s with rxq := [] }

/-- The result registers, the frame-field registers and CSUM_OK. -/
def resultsOf (s : State) : Res × MReason × Byte × Option Status × List Byte × Word × Byte × Half ×
    Half × Half × Bool :=
  (s.res, s.mreason, s.stRaw, s.st, s.extra, s.rxAddr, s.rxKind, s.rxLen, s.rxCsum, s.calcCsum,
    s.csumOk)

theorem resultsClear_iff (s : State) :
    s.ResultsClear ↔ resultsOf s = (.none, .none, 0, none, [], 0, 0, 0, 0, 0, false) := by
  simp only [resultsOf, Prod.mk.injEq]
  exact ⟨fun ⟨h1, h2, h3, h4, h5, h6, h7, h8, h9, h10, h11⟩ =>
      ⟨h1, h2, h3, h4, h5, h6, h7, h8, h9, h10, h11⟩,
    fun ⟨h1, h2, h3, h4, h5, h6, h7, h8, h9, h10, h11⟩ =>
      ⟨h1, h2, h3, h4, h5, h6, h7, h8, h9, h10, h11⟩⟩

theorem resultsClear_of_results_eq {s t : State} (hs : s.ResultsClear)
    (h : resultsOf t = resultsOf s) : t.ResultsClear :=
  (resultsClear_iff t).mpr (h.trans ((resultsClear_iff s).mp hs))

theorem blockInv_registersOf {s : State} : (registersOf s).BlockInv ↔ s.BlockInv :=
  ⟨fun h => ⟨h.rxCap, fun e => resultsClear_of_results_eq (h.waitClear e) rfl, h.waitTimer,
      h.waitBuffer, h.reason, h.responseLen, h.responseStatus, h.noResponse, h.strict, h.closedAddr,
      h.closedPwd, h.log, h.parkedLog⟩,
    fun h => ⟨h.rxCap, fun e => resultsClear_of_results_eq (h.waitClear e) rfl, h.waitTimer,
      h.waitBuffer, h.reason, h.responseLen, h.responseStatus, h.noResponse, h.strict, h.closedAddr,
      h.closedPwd, h.log, h.parkedLog⟩⟩

theorem blockInv_of_registers_eq {s t : State} (h : registersOf t = registersOf s)
    (hs : s.BlockInv) : t.BlockInv :=
  blockInv_registersOf.mp (h ▸ blockInv_registersOf.mpr hs)

theorem blockInv_of_block_eq {s t : State} (h : blockOf t = blockOf s) (hs : s.BlockInv) :
    t.BlockInv :=
  blockInv_of_registers_eq (congrArg (fun b => { b with rxq := [] }) h) hs

/-! ## The logs (R38h) -/

theorem commandLog_append {log p : List Byte} (h : CommandLog log) (a : Word) (h1 : 1 ≤ p.length)
    (hmax : p.length ≤ MAX_PAYLOAD) : CommandLog (log ++ frameBytes a .command p) := by
  obtain ⟨sent, hsent, rfl⟩ := h
  refine ⟨sent ++ [(a, p)], fun f hf => ?_, by simp⟩
  obtain hf | hf := List.mem_append.mp hf
  · exact hsent f hf
  · rw [List.mem_singleton.mp hf]
    exact ⟨h1, hmax⟩

/-! ## The ends of a transaction -/

section Waiting

variable {s u : State} (hs : s.BlockInv) (hwait : s.eng = .wait)
include hs hwait

theorem addr_ne_none_of_wait : s.addr ≠ none := fun h => by
  have hclosed := hs.closedAddr.mpr h
  rw [hwait] at hclosed
  cases hclosed

theorem pwd_ne_none_of_wait : s.pwd ≠ none := fun h => by
  have hclosed := hs.closedPwd.mpr h
  rw [hwait] at hclosed
  cases hclosed

/-- An end without a response: of the result registers only RES and MREASON, and of the others only the
frame fields, may differ from those of WAIT. -/
theorem blockInv_of_end_without_response {o : Res} {r : MReason} (ho : o ≠ .response)
    (hr : o = .malformed ↔ r ≠ .none) (hcap : Memory.wf u.rxbuf)
    (hstatus : (u.stRaw, u.st, u.extra) = (s.stRaw, s.st, s.extra))
    (hsession : (u.addr, u.pwd) = (s.addr, s.pwd))
    (hlogs : (u.txlog, u.parked) = (s.txlog, s.parked)) : (endTransaction o r u).BlockInv := by
  simp only [Prod.mk.injEq] at hstatus hsession hlogs
  obtain ⟨hstRaw, hst, hextra⟩ := hstatus
  obtain ⟨haddr, hpwd⟩ := hsession
  obtain ⟨htxlog, hparked⟩ := hlogs
  have hclear := hs.waitClear hwait
  exact {
    rxCap := hcap
    waitClear := by simp
    waitTimer := by simp
    waitBuffer := by simp
    reason := hr
    responseLen := fun h => absurd h ho
    responseStatus := fun h => absurd h ho
    noResponse := fun _ => ⟨hstRaw.trans hclear.stRaw, hst.trans hclear.st, hextra.trans hclear.extra⟩
    strict := fun h => absurd h ho
    closedAddr := by simp [haddr, addr_ne_none_of_wait hs hwait]
    closedPwd := by simp [hpwd, pwd_ne_none_of_wait hs hwait]
    log := htxlog ▸ hs.log
    parkedLog := hparked ▸ hs.parkedLog }

/-- A frame with a payload: its fields are those DECODE extracted, so its length counts the payload's
bytes and the checksum matched where it had to (R186). -/
theorem blockInv_of_response {f : Frame} {b : Byte} {xs buf q : List Byte} (hcap : Memory.wf buf)
    (hf : DECODE s.cfg.chkStrict buf = .frame f) (hp : f.payload = b :: xs) :
    (endTransaction .response .none
      { s with rxbuf := buf, rxq := q, rxAddr := f.addr, rxKind := f.kind, rxLen := f.len,
               rxCsum := f.rxCsum, calcCsum := f.calcCsum, csumOk := f.csumOk, stRaw := b,
               st := some (statusName s.cfg.statusTable b), extra := xs }).BlockInv := by
  obtain ⟨hfields, -, -, -, hlen, hend, hstrict⟩ := DECODE_frame hf
  have hpayload : f.payload.length = f.len.toNat - 2 := by
    rw [hfields]
    exact extractFrame_payload_length hend
  have hflen : 2 ≤ f.len.toNat := by
    rw [hfields]
    exact hlen
  rw [hp, List.length_cons] at hpayload
  exact {
    rxCap := hcap
    waitClear := by simp
    waitTimer := by simp
    waitBuffer := by simp
    reason := by simp
    responseLen := fun _ => ⟨show 3 ≤ f.len.toNat by omega, show xs.length = f.len.toNat - 3 by omega⟩
    responseStatus := fun _ => rfl
    noResponse := fun h => absurd rfl h
    strict := fun _ => hstrict
    closedAddr := by simp [addr_ne_none_of_wait hs hwait]
    closedPwd := by simp [pwd_ne_none_of_wait hs hwait]
    log := hs.log
    parkedLog := hs.parkedLog }

/-- A read without a verdict leaves a transaction that waits. -/
theorem blockInv_of_needMoreData {buf q : List Byte} (hcap : Memory.wf buf)
    (hmore : DECODE s.cfg.chkStrict buf = .needMoreData) :
    State.BlockInv { s with rxbuf := buf, rxq := q } :=
  { hs with
    rxCap := hcap
    waitClear := fun _ => resultsClear_of_results_eq (hs.waitClear hwait) rfl
    waitBuffer := fun _ => hmore }

theorem blockInv_of_read (k : Nat) : (afterRx k s).BlockInv := by
  have hcap : Memory.wf (afterRead k s).rxbuf := append_wf _ hs.rxCap
  unfold afterRx
  obtain ⟨hv, e⟩ | ⟨d, hv, e⟩ | ⟨f, hv, hp, e⟩ | ⟨f, b, xs, hv, hp, e⟩ :=
    settleVerdict_cases (DECODE s.cfg.chkStrict (afterRead k s).rxbuf) (afterRead k s) <;> rw [e]
  · exact blockInv_of_needMoreData hs hwait hcap hv
  · exact blockInv_of_end_without_response hs hwait (by simp) (by cases d <;> simp [Defect.reason])
      hcap rfl rfl rfl
  · exact blockInv_of_end_without_response hs hwait (by simp) (by simp) hcap rfl rfl rfl
  · exact blockInv_of_response hs hwait hcap hv hp

theorem blockInv_of_tick_in_wait : (tickBlock s).BlockInv := by
  obtain ⟨hnot, -⟩ | ⟨-, -, e⟩ | ⟨-, hlt, e⟩ := tickBlock_cases s
  · exact absurd hwait hnot
  · rw [e]
    exact blockInv_of_end_without_response hs hwait (by simp) (by simp) hs.rxCap rfl rfl rfl
  · rw [e]
    exact { hs with
      waitClear := fun _ => resultsClear_of_results_eq (hs.waitClear hwait) rfl
      waitTimer := fun _ => lt_max_of_lt_left (Nat.not_le.mp hlt) }

end Waiting

/-! ## Every move keeps the block's invariant -/

theorem resultsClear_openEffect (a p : Word) (s : State) : (openEffect a p s).ResultsClear :=
  ⟨rfl, rfl, rfl, rfl, rfl, rfl, rfl, rfl, rfl, rfl, rfl⟩

theorem openEffect_blockInv (a p : Word) {s : State} (hlog : CommandLog s.txlog)
    (hparked : ∀ t ∈ s.parked, CommandLog t.txlog) : (openEffect a p s).BlockInv :=
  blockInv_of_clear (resultsClear_openEffect a p s) rfl rfl (by simp) (by simp) hlog hparked

theorem attachTransport_parkedLog (c : TransportConfig) {s : State} (hs : s.BlockInv) :
    ∀ t ∈ (attachTransport c s).parked, CommandLog t.txlog := by
  intro t ht
  obtain ht | ht := List.mem_append.mp ht
  · exact hs.parkedLog t ht
  · rw [List.mem_singleton.mp ht]
    exact hs.log

theorem Moves.blockInv {e : Event} {s u : State} (hm : Moves e s u) (hs : s.BlockInv) :
    u.BlockInv := by
  cases hm with
  | stays => exact hs
  | opens a p he hclosed => exact openEffect_blockInv a p hs.log hs.parkedLog
  | closes he hidle =>
    rw [closeOp_idle hidle]
    exact { hs with
      waitClear := by simp, waitTimer := by simp, waitBuffer := by simp,
      closedAddr := by simp, closedPwd := by simp }
  | sends cmd p a w he hidle haddr h1 hmax =>
    exact blockInv_of_clear ⟨rfl, rfl, rfl, rfl, rfl, rfl, rfl, rfl, rfl, rfl, rfl⟩ rfl rfl
      (by simp [haddr]) (by simp [← hs.closedPwd, hidle]) (commandLog_append hs.log a h1 hmax)
      hs.parkedLog
  | attaches c he hclosed =>
    exact { hs with
      waitClear := by simp [hclosed], waitTimer := by simp [hclosed],
      waitBuffer := by simp [hclosed], log := commandLog_nil,
      parkedLog := attachTransport_parkedLog c hs }
  | discovers c a p he hclosed =>
    exact openEffect_blockInv a p commandLog_nil (attachTransport_parkedLog c hs)
  | reads k he hwait hrxq => exact blockInv_of_read hs hwait k
  | ticks he =>
    by_cases hwait : s.eng = .wait
    · exact blockInv_of_tick_in_wait hs hwait
    · rwa [tickBlock_of_ne_wait hwait]
  | device b he => exact blockInv_of_registers_eq (s := s) rfl hs
  | resets he =>
    exact blockInv_of_clear ⟨rfl, rfl, rfl, rfl, rfl, rfl, rfl, rfl, rfl, rfl, rfl⟩ rfl rfl
      ⟨fun _ => rfl, fun _ => rfl⟩ ⟨fun _ => rfl, fun _ => rfl⟩ hs.log hs.parkedLog

theorem step_blockInv {s t : State} (hs : s.BlockInv) (h : step s = .next t) : t.BlockInv := by
  obtain rfl | ⟨e, rest, u, hm, hblock⟩ := step_same_or_movesTo h
  · exact hs
  · exact blockInv_of_block_eq hblock (hm.blockInv (blockInv_of_block_eq (s := s) rfl hs))

/-! ## How HOST goes on from an outcome, position by position (R241 to R252) -/

/-- What HOST goes on with after an attempt: its own next state on Ok, its own result on a failure; a
retry and the end of the retries are the same in every sequence. -/
def afterCapture (q : Sequence) (onOk : State → State) (onFail : Cause → SeqResult)
    (outcome : CaptureStep) (s : State) : State :=
  match outcome with
  | .captured => onOk s
  | .retry => retryCapture q s
  | .captureTimeout => finish .captureTimeout s
  | .failed c => finish (onFail c) s

/-- At the position `q` HOST goes on from a capture, with these ends of its own. -/
def CapturesAt (q : Sequence) (onOk : State → State) (onFail : Cause → SeqResult) : Prop :=
  ∀ s, advance q s = afterCapture q onOk onFail (captureStep q.att s) s

theorem captureWithRetry_capturesAt (t : Word) (x : Activity) (att : Nat) :
    CapturesAt ⟨.captureWithRetry t, x, att⟩ (finish .captured) .failed :=
  fun _ => rfl

theorem identify_capturesAt (t : Word) (x : Activity) (att : Nat) :
    CapturesAt ⟨.identify t .capture, x, att⟩ (goto (.identify t .convert) .issue)
      (fun _ => .protocolError) :=
  fun _ => rfl

theorem enroll_capturesAt_first (loc : Half) (t : Word) (x : Activity) (att : Nat) :
    CapturesAt ⟨.enroll loc t .captureFirst, x, att⟩ (goto (.enroll loc t .convertFirst) .issue)
      (.phaseFailed .captureFirst) :=
  fun _ => rfl

theorem enroll_capturesAt_second (loc : Half) (t : Word) (x : Activity) (att : Nat) :
    CapturesAt ⟨.enroll loc t .captureSecond, x, att⟩ (goto (.enroll loc t .convertSecond) .issue)
      (.phaseFailed .captureSecond) :=
  fun _ => rfl

/-- At the position `q` HOST tests the outcome for Ok, and goes on so or so. -/
def TestsOkAt (q : Sequence) (onOk onOther : State → State) : Prop :=
  ∀ s, advance q s = if okOutcome s = true then onOk s else onOther s

theorem verifyPassword_testsOkAt (t : Word) (x : Activity) (att : Nat) :
    TestsOkAt ⟨.verifyPassword t, x, att⟩ (finish .authenticated) (finish .authFailed) :=
  fun _ => rfl

theorem identify_testsOkAt (t : Word) (x : Activity) (att : Nat) :
    TestsOkAt ⟨.identify t .convert, x, att⟩ (goto (.identify t .search) .issue)
      (finish .protocolError) :=
  fun _ => rfl

/-- A failed command of enroll ends it with its phase and cause (R248). -/
def phaseFailure (p : EnrollPhase) (s : State) : State := finish (.phaseFailed p (causeOf s)) s

theorem enroll_testsOkAt_convertFirst (loc : Half) (t : Word) (x : Activity) (att : Nat) :
    TestsOkAt ⟨.enroll loc t .convertFirst, x, att⟩
      (fun s => goto (.enroll loc t .captureSecond) (waitThenIssue s.cfg.liftDelay) s)
      (phaseFailure .convertFirst) :=
  fun _ => rfl

theorem enroll_testsOkAt_convertSecond (loc : Half) (t : Word) (x : Activity) (att : Nat) :
    TestsOkAt ⟨.enroll loc t .convertSecond, x, att⟩ (goto (.enroll loc t .register) .issue)
      (phaseFailure .convertSecond) :=
  fun _ => rfl

theorem enroll_testsOkAt_register (loc : Half) (t : Word) (x : Activity) (att : Nat) :
    TestsOkAt ⟨.enroll loc t .register, x, att⟩ (goto (.enroll loc t .store) .issue)
      (phaseFailure .register) :=
  fun _ => rfl

theorem enroll_testsOkAt_store (loc : Half) (t : Word) (x : Activity) (att : Nat) :
    TestsOkAt ⟨.enroll loc t .store, x, att⟩ (finish (.stored loc)) (phaseFailure .store) :=
  fun _ => rfl

theorem discover_testsOkAt (left : List Candidate) (x : Activity) (att : Nat) :
    TestsOkAt ⟨.discover left, x, att⟩ (finish .session) (goto (.discover left) .close) :=
  fun _ => rfl

/-! ## ATT through HOST's turns (R36, R242) -/

/-- The sequence that runs, if one does, has ATT in its range. -/
def AttOk (s : State) : Prop := ∀ q, s.seq = some q → q.AttInRange

theorem attOk_of_seq_eq {s t : State} (h : t.seq = s.seq) (hs : AttOk s) : AttOk t :=
  fun q hq => hs q (h ▸ hq)

theorem attOk_of_none {s : State} (h : s.seq = none) : AttOk s := fun q hq => by
  rw [h] at hq
  cases hq

theorem attOk_of_some {s : State} {q : Sequence} (h : s.seq = some q) (hq : q.AttInRange) :
    AttOk s := fun q' hq' => by
  obtain rfl : q = q' := Option.some.inj (h.symm.trans hq')
  exact hq

theorem attInRange_zero (k : Task) (x : Activity) : Sequence.AttInRange ⟨k, x, 0⟩ :=
  ⟨by simp, fun _ => by simp [RETRY_CEILING]⟩

theorem attOk_goto (k : Task) (x : Activity) (s : State) : AttOk (goto k x s) :=
  attOk_of_some rfl (attInRange_zero k x)

theorem attOk_finish (r : SeqResult) (s : State) : AttOk (finish r s) := attOk_of_none rfl

theorem att_ne_ceiling_of_retry {att : Nat} {s : State} (h : captureStep att s = .retry) :
    att ≠ RETRY_CEILING := by
  rintro rfl
  unfold captureStep at h
  rw [if_pos rfl] at h
  split_ifs at h

theorem attOk_retryCapture {q : Sequence} {s : State} (hq : q.AttInRange)
    (h : captureStep q.att s = .retry) : AttOk (retryCapture q s) :=
  attOk_of_some rfl ⟨hq.1, fun _ => Nat.lt_of_le_of_ne hq.1 (att_ne_ceiling_of_retry h)⟩

theorem attOk_of_capturesAt {q : Sequence} {onOk : State → State} {onFail : Cause → SeqResult}
    (hq : q.AttInRange) (hcap : CapturesAt q onOk onFail) (hok : ∀ s, AttOk (onOk s)) (s : State) :
    AttOk (advance q s) := by
  rw [hcap s]
  cases hc : captureStep q.att s with
  | captured => exact hok s
  | retry => exact attOk_retryCapture hq hc
  | captureTimeout => exact attOk_finish _ s
  | failed c => exact attOk_finish _ s

theorem attOk_of_testsOkAt {q : Sequence} {onOk onOther : State → State}
    (htest : TestsOkAt q onOk onOther) (hok : ∀ s, AttOk (onOk s)) (hother : ∀ s, AttOk (onOther s))
    (s : State) : AttOk (advance q s) := by
  rw [htest s]
  split
  next => exact hok s
  next => exact hother s

/-- Only a retry keeps ATT, and it keeps one below the ceiling. -/
theorem attOk_advance {q : Sequence} (hq : q.AttInRange) (s : State) : AttOk (advance q s) := by
  obtain ⟨task, x, att⟩ := q
  cases task with
  | verifyPassword t =>
    exact attOk_of_testsOkAt (verifyPassword_testsOkAt t x att) (attOk_finish _) (attOk_finish _) s
  | captureWithRetry t =>
    exact attOk_of_capturesAt hq (captureWithRetry_capturesAt t x att) (attOk_finish _) s
  | identify t p =>
    cases p with
    | capture => exact attOk_of_capturesAt hq (identify_capturesAt t x att) (attOk_goto _ _) s
    | convert =>
      exact attOk_of_testsOkAt (identify_testsOkAt t x att) (attOk_goto _ _) (attOk_finish _) s
    | search => exact attOk_finish _ s
  | enroll loc t p =>
    cases p with
    | captureFirst =>
      exact attOk_of_capturesAt hq (enroll_capturesAt_first loc t x att) (attOk_goto _ _) s
    | convertFirst =>
      exact attOk_of_testsOkAt (enroll_testsOkAt_convertFirst loc t x att)
        (fun u => attOk_goto _ _ u) (fun u => attOk_finish _ u) s
    | captureSecond =>
      exact attOk_of_capturesAt hq (enroll_capturesAt_second loc t x att) (attOk_goto _ _) s
    | convertSecond =>
      exact attOk_of_testsOkAt (enroll_testsOkAt_convertSecond loc t x att) (attOk_goto _ _)
        (fun u => attOk_finish _ u) s
    | register =>
      exact attOk_of_testsOkAt (enroll_testsOkAt_register loc t x att) (attOk_goto _ _)
        (fun u => attOk_finish _ u) s
    | store =>
      exact attOk_of_testsOkAt (enroll_testsOkAt_store loc t x att) (attOk_finish _)
        (fun u => attOk_finish _ u) s
  | discover left =>
    exact attOk_of_testsOkAt (discover_testsOkAt left x att) (attOk_finish _) (attOk_goto _ _) s

/-- An attempt follows a position below the ceiling, so counting it stays within the range. -/
theorem attInRange_issued {q : Sequence} (hq : q.AttInRange) (hact : q.act = .issue) :
    q.issued.AttInRange := by
  have hlt : q.att < RETRY_CEILING := hq.2 (by simp [hact])
  refine ⟨?_, fun h => absurd rfl h⟩
  unfold Sequence.issued
  split <;> dsimp only <;> omega

theorem attInRange_tick {q : Sequence} (hq : q.AttInRange) : q.tick.AttInRange := by
  unfold Sequence.tick
  split
  next n hact => exact ⟨hq.1, fun _ => hq.2 (by simp [hact])⟩
  all_goals exact hq

theorem hostTurn_attOk {s t : State} (hs : AttOk s) (h : hostTurn s = .next t) : AttOk t := by
  obtain e | ⟨q, -, -, e⟩ | ⟨q, hseq, hact, e⟩ | ⟨q, hseq, -, e⟩ | ⟨q, -, -, e⟩ :=
    hostTurn_cases s <;> rw [e] at h
  · cases h
    exact hs
  · cases h
    obtain e | ⟨-, e⟩ | ⟨c, left, -, -, e⟩ | ⟨-, e⟩ := attachTurn_cases q s <;> rw [e]
    · exact hs
    · exact attOk_finish _ s
    · exact attOk_goto _ _ _
    · exact attOk_of_seq_eq rfl hs
  · obtain ⟨-, e⟩ | ⟨-, -, e⟩ | ⟨i, -, -, e⟩ | ⟨i, a, -, -, -, e⟩ | ⟨i, -, -, -, e⟩ :=
      issueTurn_cases q s <;> cases e.symm.trans h
    · exact hs
    · exact attOk_of_seq_eq rfl hs
    · exact attOk_of_seq_eq rfl hs
    · exact attOk_of_some rfl (attInRange_issued (hs q hseq) hact)
  · cases h
    obtain ⟨-, e⟩ | ⟨-, -, e⟩ | ⟨-, -, e⟩ := awaitTurn_cases q s <;> rw [e]
    · exact hs
    · exact attOk_of_seq_eq rfl hs
    · exact attOk_advance (hs q hseq) s
  · cases h
    obtain ⟨-, e⟩ | ⟨-, r, e⟩ := closeTurn_cases q s <;> rw [e]
    · exact attOk_goto _ _ _
    · exact attOk_of_seq_eq rfl hs

theorem hostOp_attOk {op : HostOp} {s t : State} (hs : AttOk s) (h : hostOp op s = .next t) :
    AttOk t := by
  cases op with
  | openSession a p =>
    cases h
    obtain ⟨-, e⟩ | ⟨-, e⟩ := openOp_cases a p s <;> rw [e] <;> exact attOk_of_seq_eq rfl hs
  | closeSession =>
    cases h
    obtain ⟨-, e⟩ | ⟨-, e⟩ | ⟨-, e⟩ := closeOp_cases s <;> rw [e] <;> exact attOk_of_seq_eq rfl hs
  | exec p w =>
    have hexec := (execOp_eq_execPayload p w s).symm.trans h
    obtain ⟨-, e⟩ | ⟨-, e⟩ | ⟨-, -, e⟩ | ⟨a, -, -, -, -, e⟩ | ⟨-, -, -, -, e⟩ :=
      execPayload_cases (commandOf p) p (withTimeout w s) <;> cases e.symm.trans hexec <;>
      exact attOk_of_seq_eq rfl hs
  | read r => cases h; rw [readReg_eq]; exact attOk_of_seq_eq rfl hs
  | readOutcome => cases h; rw [readOutcomeOp_eq]; exact attOk_of_seq_eq rfl hs
  | encodeFrame a k p => cases h; rw [encodeOp_eq]; exact attOk_of_seq_eq rfl hs
  | decodeFrame b => cases h; exact attOk_of_seq_eq rfl hs
  | csum16 b => cases h; exact attOk_of_seq_eq rfl hs
  | attach c =>
    cases h
    obtain ⟨-, e⟩ | ⟨-, e⟩ := attachOp_cases c s <;> rw [e] <;> exact attOk_of_seq_eq rfl hs
  | start r =>
    obtain ⟨-, e⟩ | ⟨-, -, e⟩ | ⟨-, x, -, e⟩ := startOp_cases r s <;> cases e.symm.trans h
    · exact attOk_of_some rfl (attInRange_zero _ _)
    · exact attOk_of_seq_eq rfl hs
  | turn => exact hostTurn_attOk hs h
  | cancel =>
    cases h
    rw [cancelOp]
    split
    next => exact attOk_of_seq_eq rfl hs
    next => exact attOk_of_none rfl

theorem settleVerdict_seq (v : Verdict) (s : State) : (settleVerdict v s).seq = s.seq := by
  obtain ⟨-, e⟩ | ⟨d, -, e⟩ | ⟨f, -, -, e⟩ | ⟨f, b, xs, -, -, e⟩ := settleVerdict_cases v s <;>
    rw [e] <;> rfl

theorem rxStep_seq (k : Nat) (s : State) : (rxStep k s).seq = s.seq := by
  by_cases hen : s.eng = .wait ∧ s.rxq ≠ []
  · exact (congrArg State.seq (rxStep_eq_afterRx hen)).trans (settleVerdict_seq _ (afterRead k s))
  · rw [rxStep_of_not_enabled hen]

theorem tickBlock_seq (s : State) : (tickBlock s).seq = s.seq := by
  obtain ⟨-, e⟩ | ⟨-, -, e⟩ | ⟨-, -, e⟩ := tickBlock_cases s <;> simp [e]

theorem attOk_tickHost {s : State} (hs : AttOk s) : AttOk (tickHost s) := by
  intro q hq
  obtain ⟨q', hq', rfl⟩ := Option.map_eq_some_iff.mp hq
  exact attInRange_tick (hs q' hq')

theorem runEvent_attOk {e : Event} {s t : State} (hs : AttOk s) (h : runEvent e s = .next t) :
    AttOk t := by
  cases e with
  | host op => exact hostOp_attOk hs h
  | rx k => cases h; exact attOk_of_seq_eq (rxStep_seq k s) hs
  | tick => cases h; exact attOk_tickHost (attOk_of_seq_eq (tickBlock_seq s) hs)
  | device b => cases h; exact attOk_of_seq_eq rfl hs
  | reset => cases h; exact attOk_of_seq_eq rfl hs
  | sameCycle c => cases h; exact attOk_of_seq_eq rfl hs

theorem step_attOk {s t : State} (hs : AttOk s) (h : step s = .next t) : AttOk t := by
  obtain ⟨-, rfl⟩ | ⟨e, rest, -, hrun⟩ := step_next_cases h
  · exact hs
  · exact runEvent_attOk (s := withSched rest s) hs hrun

/-- Settles O43: the block's part by its moves, ATT by HOST's turns. -/
theorem stepKeepsInvariant : Obligations.StepKeepsInvariant :=
  fun _ _ hs h => ⟨step_blockInv hs.block h, step_attOk hs.att h⟩

/-! ## Where a step stops (R33, R76) -/

theorem execPayload_not_refused (cmd : Option Instr) (p : List Byte) (s : State) (r : Refusal) :
    execPayload cmd p s ≠ .refused r := by
  obtain ⟨-, e⟩ | ⟨-, e⟩ | ⟨-, -, e⟩ | ⟨a, -, -, -, -, e⟩ | ⟨-, -, -, -, e⟩ :=
    execPayload_cases cmd p s <;> simp [e]

theorem hostTurn_not_refused (s : State) (r : Refusal) : hostTurn s ≠ .refused r := by
  obtain e | ⟨q, -, -, e⟩ | ⟨q, -, -, e⟩ | ⟨q, -, -, e⟩ | ⟨q, -, -, e⟩ := hostTurn_cases s
  case inr.inr.inl =>
    obtain ⟨-, e'⟩ | ⟨-, -, e'⟩ | ⟨i, -, -, e'⟩ | ⟨i, a, -, -, -, e'⟩ | ⟨i, -, -, -, e'⟩ :=
      issueTurn_cases q s <;> simp [e, e']
  all_goals simp [e]

theorem hostTurn_fault {s : State} {r : Fault} (h : hostTurn s = .fault r) :
    s.eng = .idle ∧ s.addr = none := by
  obtain e | ⟨q, -, -, e⟩ | ⟨q, -, -, e⟩ | ⟨q, -, -, e⟩ | ⟨q, -, -, e⟩ := hostTurn_cases s <;>
    rw [e] at h
  case inr.inr.inl =>
    obtain ⟨-, e'⟩ | ⟨-, -, e'⟩ | ⟨i, -, -, e'⟩ | ⟨i, a, -, -, -, e'⟩ | ⟨i, hidle, -, haddr, e'⟩ :=
      issueTurn_cases q s <;> cases e'.symm.trans h
    exact ⟨hidle, haddr⟩
  all_goals cases h

theorem runEvent_fault {e : Event} {s : State} {r : Fault} (h : runEvent e s = .fault r) :
    s.eng = .idle ∧ s.addr = none := by
  cases e with
  | host op =>
    cases op with
    | exec p w =>
      obtain ⟨-, e⟩ | ⟨-, e⟩ | ⟨-, -, e⟩ | ⟨a, -, -, -, -, e⟩ | ⟨hidle, -, -, haddr, -⟩ :=
        execPayload_cases (commandOf p) p (withTimeout w s)
      case inr.inr.inr.inr => exact ⟨hidle, haddr⟩
      all_goals cases e.symm.trans ((execOp_eq_execPayload p w s).symm.trans h)
    | start q =>
      obtain ⟨-, e⟩ | ⟨-, -, e⟩ | ⟨-, x, -, e⟩ := startOp_cases q s <;> cases e.symm.trans h
    | turn => exact hostTurn_fault h
    | _ => cases h
  | _ => cases h

theorem runEvent_refused {e : Event} {s : State} {r : Refusal} (h : runEvent e s = .refused r) :
    r = .interleavedSequences ∧ s.seq ≠ none ∧ ∃ q, e = .host (.start q) := by
  cases e with
  | host op =>
    cases op with
    | exec p w =>
      exact absurd ((execOp_eq_execPayload p w s).symm.trans h) (execPayload_not_refused _ _ _ r)
    | start q =>
      obtain ⟨hseq, e⟩ | ⟨-, -, e⟩ | ⟨-, x, -, e⟩ := startOp_cases q s <;> cases e.symm.trans h
      exact ⟨rfl, hseq, q, rfl⟩
    | turn => exact absurd h (hostTurn_not_refused s r)
    | _ => cases h
  | _ => cases h

/-- Settles O44: a fault asks for IDLE without an address, which the invariant excludes, and only a start
is ever refused. -/
theorem onlyInterleavedSequencesStop : Obligations.OnlyInterleavedSequencesStop := by
  intro s hs
  cases hsched : s.sched with
  | nil => simp [step_nil hsched]
  | cons e rest =>
    rw [step_cons hsched]
    refine ⟨fun r h => ?_, fun r h => ?_⟩
    · obtain ⟨hidle, haddr⟩ := runEvent_fault h
      have hclosed : s.eng = .closed := hs.block.closedAddr.mpr haddr
      exact absurd (hidle.symm.trans hclosed) (by decide)
    · obtain ⟨hr, hseq, q, rfl⟩ := runEvent_refused h
      exact ⟨hr, hseq, q, rest, rfl⟩

end Sys2Proof.Proofs
end

section
/-! SUPPORT. What a step can do to ENG, the session registers, the logs and RXQ, read off the ten moves
(spec 42_engine_execute.md section 6, 10_state.md R21, 20_memory.md section 4): the settlements of O45,
O46, O47 and O48. -/

namespace Sys2Proof.Proofs

open Sys2Proof Sys2Proof.Machine Sys2Proof.Claims

/-! ## What a verdict and a tick leave -/

/-- The fields that neither a verdict nor a tick writes are the same. -/
structure SameOutside (t s : State) : Prop where
  cfg    : t.cfg = s.cfg
  addr   : t.addr = s.addr
  pwd    : t.pwd = s.pwd
  txlog  : t.txlog = s.txlog
  parked : t.parked = s.parked
  rxq    : t.rxq = s.rxq
  rxbuf  : t.rxbuf = s.rxbuf

theorem settleVerdict_outside (v : Verdict) (s : State) : SameOutside (settleVerdict v s) s := by
  obtain ⟨-, e⟩ | ⟨d, -, e⟩ | ⟨f, -, -, e⟩ | ⟨f, b, xs, -, -, e⟩ := settleVerdict_cases v s <;>
    rw [e] <;> exact ⟨rfl, rfl, rfl, rfl, rfl, rfl, rfl⟩

theorem tickBlock_outside (s : State) : SameOutside (tickBlock s) s := by
  obtain ⟨-, e⟩ | ⟨-, -, e⟩ | ⟨-, -, e⟩ := tickBlock_cases s <;>
    rw [e] <;> exact ⟨rfl, rfl, rfl, rfl, rfl, rfl, rfl⟩

theorem afterRx_outside (k : Nat) (s : State) : SameOutside (afterRx k s) (afterRead k s) :=
  settleVerdict_outside _ (afterRead k s)

theorem settleVerdict_eng (v : Verdict) (s : State) :
    (settleVerdict v s).eng = s.eng ∨ (settleVerdict v s).eng = .idle := by
  obtain ⟨-, e⟩ | ⟨d, -, e⟩ | ⟨f, -, -, e⟩ | ⟨f, b, xs, -, -, e⟩ := settleVerdict_cases v s <;>
    rw [e]
  · exact .inl rfl
  all_goals exact .inr rfl

theorem afterRx_eng (k : Nat) (s : State) :
    (afterRx k s).eng = s.eng ∨ (afterRx k s).eng = .idle :=
  settleVerdict_eng _ (afterRead k s)

theorem tickBlock_eng (s : State) :
    (tickBlock s).eng = s.eng ∨ s.eng = .wait ∧ (tickBlock s).eng = .idle := by
  obtain ⟨-, e⟩ | ⟨hwait, -, e⟩ | ⟨-, -, e⟩ := tickBlock_cases s <;> rw [e]
  · exact .inl rfl
  · exact .inr ⟨hwait, rfl⟩
  · exact .inl rfl

/-! ## ENG (R196) -/

/-- The rows of R196's table from `x` to `y` for the event `e`. -/
def EngRow (e : Event) (x y : Eng) : Prop :=
  (x = .closed → y = .closed ∨
    (y = .idle ∧ ((∃ a p, e = .host (.openSession a p)) ∨ e = .host .turn))) ∧
  (x = .idle → y = .idle ∨
    (y = .closed ∧ (e = .host .closeSession ∨ e = .host .turn ∨ e = .reset)) ∨
    (y = .wait ∧ ((∃ p w, e = .host (.exec p w) ∧ 1 ≤ p.length ∧ p.length ≤ 65533) ∨
      e = .host .turn))) ∧
  (x = .wait → y = .wait ∨
    (y = .idle ∧ (e = .tick ∨ ∃ k, e = .rx k)) ∨
    (y = .closed ∧ e = .reset))

theorem engRow_same (e : Event) (x : Eng) : EngRow e x x := ⟨.inl, .inl, .inl⟩

theorem engRow_of_eq {e : Event} {x y : Eng} (h : y = x) : EngRow e x y := h ▸ engRow_same e x

theorem engRow_end {e : Event} (he : e = .tick ∨ ∃ k, e = .rx k) : EngRow e .wait .idle :=
  ⟨by simp, by simp, fun _ => .inr (.inl ⟨rfl, he⟩)⟩

theorem Moves.engRow {e : Event} {s u : State} (hm : Moves e s u) : EngRow e s.eng u.eng := by
  cases hm with
  | stays => exact engRow_same e s.eng
  | opens a p he hclosed =>
    rw [hclosed]
    exact ⟨fun _ => .inr ⟨rfl, .inl ⟨a, p, he⟩⟩, by simp, by simp⟩
  | closes he hidle =>
    rw [hidle, closeOp_idle hidle]
    exact ⟨by simp, fun _ => .inr (.inl ⟨rfl, he.imp_right .inl⟩), by simp⟩
  | sends cmd p a w he hidle haddr h1 hmax =>
    rw [hidle]
    exact ⟨by simp, fun _ => .inr (.inr ⟨rfl, he.imp_left fun h => ⟨p, w, h, h1, hmax⟩⟩), by simp⟩
  | attaches c he hclosed => exact engRow_same e s.eng
  | discovers c a p he hclosed =>
    rw [hclosed]
    exact ⟨fun _ => .inr ⟨rfl, .inr he⟩, by simp, by simp⟩
  | reads k he hwait hrxq =>
    obtain hsame | hidle := afterRx_eng k s
    · exact engRow_of_eq hsame
    · rw [hidle, hwait]
      exact engRow_end (.inr ⟨k, he⟩)
  | ticks he =>
    obtain hsame | ⟨hwait, hidle⟩ := tickBlock_eng s
    · exact engRow_of_eq hsame
    · rw [hidle, hwait]
      exact engRow_end (.inl he)
  | device b he => exact engRow_same e s.eng
  | resets he =>
    exact ⟨fun _ => .inl rfl, fun _ => .inr (.inl ⟨rfl, .inr (.inr he)⟩),
      fun _ => .inr (.inr ⟨rfl, he⟩)⟩

/-- Settles O45: each move is a row of the table. -/
theorem engTransitions : Obligations.EngTransitions := by
  intro s t e rest hsched h
  obtain ⟨u, hm, hblock⟩ := step_movesTo hsched h
  obtain ⟨-, heng, -⟩ := fields_of_block_eq hblock
  rw [heng]
  exact hm.engRow

/-! ## ADDR and PWD (R21) -/

/-- Only OPEN, CLOSE and reset write the session registers: OPEN where no session is, the others to end
one. -/
theorem Moves.session {e : Event} {s u : State} (hm : Moves e s u) :
    (u.addr, u.pwd) = (s.addr, s.pwd) ∧ (u.eng = .closed → s.eng = .closed) ∨ s.eng = .closed ∨
      u.eng = .closed ∧ (u.addr, u.pwd) = (none, none) := by
  cases hm with
  | stays => exact .inl ⟨rfl, id⟩
  | opens a p he hclosed => exact .inr (.inl hclosed)
  | closes he hidle =>
    rw [closeOp_idle hidle]
    exact .inr (.inr ⟨rfl, rfl⟩)
  | sends cmd p a w he hidle haddr h1 hmax => exact .inl ⟨rfl, by simp⟩
  | attaches c he hclosed => exact .inr (.inl hclosed)
  | discovers c a p he hclosed => exact .inr (.inl hclosed)
  | reads k he hwait hrxq =>
    have hleft := afterRx_outside k s
    refine .inl ⟨Prod.ext hleft.addr hleft.pwd, fun hclosed => ?_⟩
    obtain hsame | hidle := afterRx_eng k s
    · exact hsame.symm.trans hclosed
    · cases hidle.symm.trans hclosed
  | ticks he =>
    have hleft := tickBlock_outside s
    refine .inl ⟨Prod.ext hleft.addr hleft.pwd, fun hclosed => ?_⟩
    obtain hsame | ⟨-, hidle⟩ := tickBlock_eng s
    · exact hsame.symm.trans hclosed
    · cases hidle.symm.trans hclosed
  | device b he => exact .inl ⟨rfl, id⟩
  | resets he => exact .inr (.inr ⟨rfl, rfl⟩)

/-- Settles O46: the cases of `Moves.session`. -/
theorem sessionRegistersReadOnly : Obligations.SessionRegistersReadOnly := by
  intro s t h
  obtain rfl | ⟨e, rest, u, hm, hblock⟩ := step_same_or_movesTo h
  · exact ⟨fun _ _ => ⟨rfl, rfl⟩, fun hopen hclosed => absurd hclosed hopen⟩
  obtain ⟨-, heng, haddr, hpwd, -⟩ := fields_of_block_eq hblock
  rw [heng, haddr, hpwd]
  obtain ⟨hsame, hends⟩ | hclosed | ⟨hends, hnone⟩ := hm.session
  · exact ⟨fun _ _ => Prod.ext_iff.mp hsame, fun hopen hclosed => absurd (hends hclosed) hopen⟩
  · exact ⟨fun hopen => absurd hclosed hopen, fun hopen => absurd hclosed hopen⟩
  · exact ⟨fun _ hopen => absurd hends hopen, fun _ _ => Prod.ext_iff.mp hnone⟩

/-! ## TXLOG (R67) -/

/-- The transport as a parked one holds it (log 3). -/
def attachedTransport (s : State) : Transport := { tcfg := s.tcfg, rxq := s.rxq, txlog := s.txlog }

/-- TXLOG and the parked transports stay, or one Command frame was sent, or a new transport took the
place of the old one. -/
theorem Moves.logs {e : Event} {s u : State} (hm : Moves e s u) :
    (u.txlog = s.txlog ∧ u.parked = s.parked) ∨
    (∃ (a : Word) (p : List Byte), s.eng = .idle ∧ u.eng = .wait ∧ s.addr = some a ∧
      1 ≤ p.length ∧ p.length ≤ 65533 ∧ u.txlog = s.txlog ++ frameOf a 1 p ∧
      u.parked = s.parked ∧ u.rxq = []) ∨
    (s.eng = .closed ∧ u.txlog = [] ∧ u.rxq = [] ∧ u.parked = s.parked ++ [attachedTransport s]) := by
  cases hm with
  | stays => exact .inl ⟨rfl, rfl⟩
  | opens a p he hclosed => exact .inl ⟨rfl, rfl⟩
  | closes he hidle =>
    rw [closeOp_idle hidle]
    exact .inl ⟨rfl, rfl⟩
  | sends cmd p a w he hidle haddr h1 hmax =>
    have hframe : frameBytes a .command p = frameOf a 1 p :=
      frameBytes_eq_frameOf a .command (by simp only [MAX_PAYLOAD] at hmax; omega)
    exact .inr (.inl ⟨a, p, hidle, rfl, haddr, h1, hmax, hframe ▸ rfl, rfl, rfl⟩)
  | attaches c he hclosed => exact .inr (.inr ⟨hclosed, rfl, rfl, rfl⟩)
  | discovers c a p he hclosed => exact .inr (.inr ⟨hclosed, rfl, rfl, rfl⟩)
  | reads k he hwait hrxq =>
    have hleft := afterRx_outside k s
    exact .inl ⟨hleft.txlog, hleft.parked⟩
  | ticks he =>
    have hleft := tickBlock_outside s
    exact .inl ⟨hleft.txlog, hleft.parked⟩
  | device b he => exact .inl ⟨rfl, rfl⟩
  | resets he => exact .inl ⟨rfl, rfl⟩

theorem step_attach {s : State} {c : TransportConfig} {rest : List Event}
    (h : s.sched = .host (.attach c) :: rest) : step s = .next (attachOp c (withSched rest s)) :=
  step_cons h

theorem attachOp_closed {c : TransportConfig} {s : State} (h : s.eng = .closed) :
    attachOp c s = { attachTransport c s with reply := .accepted } := by
  rw [attachOp, h]

theorem attachOp_of_ne_closed {c : TransportConfig} {s : State} (h : s.eng ≠ .closed) :
    attachOp c s = refuse .alreadyOpen s :=
  (attachOp_cases c s).resolve_left (fun hclosed => h hclosed.1) |>.2

/-- Settles O47: `Moves.logs` for every step, and the two answers of `attachOp`. -/
theorem txlogGrowsByCommandFrames : Obligations.TxlogGrowsByCommandFrames := by
  refine ⟨fun s t h => ?_, fun s c rest hsched => ⟨fun hclosed => ?_, fun hopen => ?_⟩⟩
  · obtain rfl | ⟨e, rest, u, hm, hblock⟩ := step_same_or_movesTo h
    · exact .inl ⟨rfl, rfl⟩
    obtain ⟨-, heng, -, -, -, hrxq, htxlog, hparked⟩ := fields_of_block_eq hblock
    rw [heng, htxlog, hparked, hrxq]
    exact hm.logs
  · rw [step_attach hsched, attachOp_closed (s := withSched rest s) hclosed]
    rfl
  · rw [step_attach hsched, attachOp_of_ne_closed (s := withSched rest s) hopen]
    rfl

/-! ## RXQ and the parameters (R23, R37) -/

/-- What each event does to RXQ. -/
theorem Moves.rxq {e : Event} {s u : State} (hm : Moves e s u) :
    u.cfg = s.cfg ∧
    ((∃ b, e = .device b) ∨ u.rxq = s.rxq ∨
      (s.eng = .wait ∧ s.rxq ≠ [] ∧ ∃ k, e = .rx k ∧
        u.rxq = s.rxq.drop (readCount k s.rxq.length) ∧
        u.rxbuf = append s.rxbuf (s.rxq.take (readCount k s.rxq.length))) ∨
      (s.eng = .idle ∧ u.eng = .wait ∧ u.rxq = [] ∧ u.rxbuf = [] ∧
        ((∃ p w, e = .host (.exec p w)) ∨ e = .host .turn)) ∨
      (s.eng = .closed ∧ u.rxq = [] ∧ u.parked = s.parked ++ [attachedTransport s] ∧
        ((∃ c, e = .host (.attach c)) ∨ e = .host .turn))) := by
  cases hm with
  | stays => exact ⟨rfl, .inr (.inl rfl)⟩
  | opens a p he hclosed => exact ⟨rfl, .inr (.inl rfl)⟩
  | closes he hidle =>
    rw [closeOp_idle hidle]
    exact ⟨rfl, .inr (.inl rfl)⟩
  | sends cmd p a w he hidle haddr h1 hmax =>
    exact ⟨rfl, .inr (.inr (.inr (.inl
      ⟨hidle, rfl, rfl, rfl, he.imp_left fun h => ⟨p, w, h⟩⟩)))⟩
  | attaches c he hclosed =>
    exact ⟨rfl, .inr (.inr (.inr (.inr ⟨hclosed, rfl, rfl, .inl ⟨c, he⟩⟩)))⟩
  | discovers c a p he hclosed =>
    exact ⟨rfl, .inr (.inr (.inr (.inr ⟨hclosed, rfl, rfl, .inr he⟩)))⟩
  | reads k he hwait hrxq =>
    have hleft := afterRx_outside k s
    exact ⟨hleft.cfg, .inr (.inr (.inl ⟨hwait, hrxq, k, he, hleft.rxq, hleft.rxbuf⟩))⟩
  | ticks he =>
    have hleft := tickBlock_outside s
    exact ⟨hleft.cfg, .inr (.inl hleft.rxq)⟩
  | device b he => exact ⟨rfl, .inl ⟨b, he⟩⟩
  | resets he => exact ⟨rfl, .inr (.inl rfl)⟩

/-- Settles O48: DEVICE's step and the empty schedule as they stand, every other step by `Moves.rxq`. -/
theorem rxqIsFirstInFirstOut : Obligations.RxqIsFirstInFirstOut := by
  refine ⟨fun s b rest hsched => step_device hsched, fun s => step_nil,
    fun s t e rest hsched h => ?_⟩
  obtain ⟨u, hm, hblock⟩ := step_movesTo hsched h
  obtain ⟨hcfg, heng, -, -, hrxbuf, hrxq, -, hparked⟩ := fields_of_block_eq hblock
  rw [hcfg, heng, hrxq, hrxbuf, hparked]
  exact hm.rxq

end Sys2Proof.Proofs
end

section
/-! SUPPORT. A transaction to its end (spec 42_engine_execute.md R197, 20_memory.md R64, R66, R79): every
tick counts towards the timeout, and how reads cut the incoming bytes changes no verdict. The settlements
of O49 and O50. -/

namespace Sys2Proof.Proofs

open Sys2Proof Sys2Proof.Machine Sys2Proof.Claims

/-! ## One step while waiting -/

/-- The events a waiting transaction is left to: ENGINE's, CLOCK's and DEVICE's. -/
def Environmental (e : Event) : Prop := e = .tick ∨ (∃ k, e = .rx k) ∨ ∃ b, e = .device b

/-- What a step of the environment makes of a transaction: it has ended with an outcome, or it waits on,
a tick counted. -/
def EndsOrWaits (e : Event) (s t : State) : Prop :=
  t.txlog = s.txlog ∧
    ((t.eng = .idle ∧ t.res ≠ .none) ∨
      (t.eng = .wait ∧ t.tmo = s.tmo ∧
        t.timer.toNat = s.timer.toNat + if e = .tick then 1 else 0))

theorem settleVerdict_endsOrWaits (k : Nat) (v : Verdict) {s : State} (hwait : s.eng = .wait) :
    EndsOrWaits (.rx k) s (settleVerdict v s) := by
  refine ⟨(settleVerdict_outside v s).txlog, ?_⟩
  obtain ⟨-, e⟩ | ⟨d, -, e⟩ | ⟨f, -, -, e⟩ | ⟨f, b, xs, -, -, e⟩ := settleVerdict_cases v s <;> rw [e]
  · exact .inr ⟨hwait, rfl, rfl⟩
  all_goals exact .inl ⟨rfl, by simp⟩

theorem rxStep_endsOrWaits (k : Nat) {s : State} (hwait : s.eng = .wait) :
    EndsOrWaits (.rx k) s (rxStep k s) := by
  by_cases hen : s.eng = .wait ∧ s.rxq ≠ []
  · rw [rxStep_of_enabled hen]
    exact settleVerdict_endsOrWaits k _ (s := afterRead k s) hwait
  · rw [rxStep_of_not_enabled hen]
    exact ⟨rfl, .inr ⟨hwait, rfl, rfl⟩⟩

/-- TIMER is below 2 ^ 32 - 1 while it may still count, so it never wraps (R38c). -/
theorem toNat_timer_succ {s : State} (h : s.timer.toNat < max s.tmo.toNat 1) :
    (s.timer + 1).toNat = s.timer.toNat + 1 := by
  have htmo := s.tmo.isLt
  rw [BitVec.toNat_add]
  exact Nat.mod_eq_of_lt (show s.timer.toNat + 1 < 2 ^ 32 by omega)

theorem tickBlock_endsOrWaits {s : State} (hwait : s.eng = .wait)
    (htimer : s.timer.toNat < max s.tmo.toNat 1) : EndsOrWaits .tick s (tickBlock s) := by
  refine ⟨(tickBlock_outside s).txlog, ?_⟩
  obtain ⟨hnot, -⟩ | ⟨-, -, e⟩ | ⟨-, -, e⟩ := tickBlock_cases s
  · exact absurd hwait hnot
  · rw [e]
    exact .inl ⟨rfl, by simp⟩
  · rw [e]
    exact .inr ⟨hwait, rfl, toNat_timer_succ htimer⟩

theorem step_environmental {s : State} {e : Event} {rest : List Event}
    (hsched : s.sched = e :: rest) (he : Environmental e) (hwait : s.eng = .wait)
    (htimer : s.timer.toNat < max s.tmo.toNat 1) :
    ∃ t, step s = .next t ∧ t.sched = rest ∧ EndsOrWaits e s t := by
  rw [step_cons hsched]
  obtain rfl | ⟨k, rfl⟩ | ⟨b, rfl⟩ := he
  · refine ⟨_, rfl, ?_, tickBlock_endsOrWaits (s := withSched rest s) hwait htimer⟩
    obtain ⟨-, e⟩ | ⟨-, -, e⟩ | ⟨-, -, e⟩ := tickBlock_cases (withSched rest s) <;>
      simp [tickHost, e]
  · refine ⟨_, rfl, ?_, rxStep_endsOrWaits k (s := withSched rest s) hwait⟩
    rw [rxStep]
    split
    next => exact settleVerdict_sched _ _
    next => rfl
  · exact ⟨_, rfl, rfl, rfl, .inr ⟨hwait, rfl, rfl⟩⟩

/-! ## The bound (R197) -/

/-- The ticks of a schedule. -/
def ticksIn (l : List Event) : Nat := (l.filter (fun e => decide (e = .tick))).length

theorem ticksIn_cons (e : Event) (l : List Event) :
    ticksIn (e :: l) = (if e = .tick then 1 else 0) + ticksIn l := by
  by_cases he : e = .tick
  · simp [ticksIn, he, Nat.add_comm]
  · simp [ticksIn, he]

/-- With the ticks that are missing to max(TMO, 1) still in the schedule, some first part of it ends the
transaction. -/
theorem transaction_ends {l : List Event} {s : State} (hsched : s.sched = l) (hs : s.BlockInv)
    (hwait : s.eng = .wait) (henv : ∀ e ∈ l, Environmental e)
    (hticks : max s.tmo.toNat 1 ≤ s.timer.toNat + ticksIn l) :
    ∃ (n : Nat) (t : State), n ≤ l.length ∧ Host.Core.run core n s = .next t ∧ t.eng = .idle ∧
      t.res ≠ .none ∧ t.txlog = s.txlog := by
  have htimer := hs.waitTimer hwait
  induction l generalizing s with
  | nil => exact absurd (Nat.lt_of_lt_of_le htimer hticks) (Nat.lt_irrefl _)
  | cons e l ih =>
    obtain ⟨u, hstep, hrest, hlog, hend | ⟨hwait', htmo, hcount⟩⟩ :=
      step_environmental hsched (henv e List.mem_cons_self) hwait htimer
    · exact ⟨1, u, by simp, run_of_step hstep rfl, hend.1, hend.2, hlog⟩
    · have hu : u.BlockInv := step_blockInv hs hstep
      rw [ticksIn_cons, ← Nat.add_assoc, ← hcount, ← htmo] at hticks
      obtain ⟨n, t, hn, hrun, hidle, hres, hlog'⟩ := ih hrest hu hwait'
        (fun e' he' => henv e' (List.mem_cons_of_mem e he')) hticks (hu.waitTimer hwait')
      exact ⟨n + 1, t, Nat.succ_le_succ hn, run_of_step hstep hrun, hidle, hres, hlog'.trans hlog⟩

/-- Settles O49: `transaction_ends`, where TIMER need not be 0. -/
theorem transactionIsBounded : Obligations.TransactionIsBounded :=
  fun _ hs hwait henv hticks =>
    transaction_ends rfl hs.block hwait henv (Nat.le_trans hticks (Nat.le_add_left _ _))

/-! ## Reads in pieces (R66, R79) -/

/-- Appending twice is appending once: bytes that no longer fit are dropped either way. -/
theorem append_append {b : Memory} (h : Memory.wf b) (x y : List Byte) :
    append (append b x) y = append b (x ++ y) := by
  rw [append_eq_take y (append_wf x h), append_eq_take x h, append_eq_take (x ++ y) h,
    ← List.append_assoc, List.take_append, List.take_append (l₁ := b ++ x), List.take_take,
    Nat.min_self, List.length_take]
  congr 2
  omega

/-- A verdict on the bytes read so far is the verdict on all that RXQ holds. -/
theorem DECODE_append_of_read {strict : Bool} {b : Memory} (h : Memory.wf b) (x y : List Byte)
    (hv : DECODE strict (append b x) ≠ .needMoreData) :
    DECODE strict (append b (x ++ y)) = DECODE strict (append b x) := by
  rw [← append_append h, append]
  exact DECODE_append_of_verdict _ hv

/-- The state without RXBUF and RXQ. -/
def unread (s : State) : State := { s with rxbuf := [], rxq := [] }

theorem unread_settleVerdict (v : Verdict) (l : List Event) (s : State) :
    unread (withSched l (settleVerdict v s)) = settleVerdict v (unread (withSched l s)) := by
  cases v with
  | needMoreData => rfl
  | malformed d => rfl
  | frame f =>
    cases hp : f.payload with
    | nil => simp only [settleVerdict, acceptFrame_of_nil hp]; rfl
    | cons b xs => simp only [settleVerdict, acceptFrame_of_cons hp]; rfl

theorem step_rx_of_not_enabled {s : State} {k : Nat} {rest : List Event}
    (hsched : s.sched = .rx k :: rest) (h : s.eng ≠ .wait ∨ s.rxq = []) :
    step s = .next (withSched rest s) :=
  (rxWaitsOrIsNotEnabled s k rest hsched).2 h

theorem withSched_of_sched_eq {s : State} {l : List Event} (h : s.sched = l) : withSched l s = s := by
  subst h
  rfl

/-- After the end of a transaction reads change nothing. -/
theorem run_reads_of_ended {ks : List Nat} {s : State} (hsched : s.sched = ks.map Event.rx)
    (hend : s.eng ≠ .wait) : Host.Core.run core ks.length s = .next (withSched [] s) := by
  induction ks generalizing s with
  | nil =>
    exact congrArg Host.Outcome.next (withSched_of_sched_eq hsched).symm
  | cons k ks ih =>
    exact run_of_step (step_rx_of_not_enabled hsched (.inl hend))
      (ih (s := withSched (ks.map Event.rx) s) rfl hend)

/-- Reads carried on to the end of RXQ or of the transaction leave what one read of all of RXQ leaves. -/
theorem run_reads {ks : List Nat} {s t : State} (hsched : s.sched = ks.map Event.rx)
    (hwait : s.eng = .wait) (hcap : Memory.wf s.rxbuf)
    (hmore : DECODE s.cfg.chkStrict s.rxbuf = .needMoreData)
    (hrun : Host.Core.run core ks.length s = .next t) (hdone : t.rxq = [] ∨ t.eng ≠ .wait) :
    unread t = settleVerdict (DECODE s.cfg.chkStrict (append s.rxbuf s.rxq))
      (unread (withSched [] s)) := by
  induction ks generalizing s with
  | nil =>
    obtain rfl : s = t := Host.Outcome.next.inj hrun
    have hrxq : s.rxq = [] := hdone.resolve_right (fun hnot => hnot hwait)
    have hall : append s.rxbuf s.rxq = s.rxbuf := by rw [hrxq, append, List.take_nil, List.append_nil]
    rw [hall, hmore, withSched_of_sched_eq (l := []) hsched]
    rfl
  | cons k ks ih =>
    by_cases hrxq : s.rxq = []
    · have hstep := step_rx_of_not_enabled hsched (.inr hrxq)
      exact ih (s := withSched (ks.map Event.rx) s) rfl hwait hcap hmore
        ((run_of_step hstep rfl).symm.trans hrun)
    · have hstep := step_rx_of_verdict hsched hwait hrxq rfl
      have hrest := (run_of_step hstep rfl).symm.trans hrun
      have hsplit := List.take_append_drop (readCount k s.rxq.length) s.rxq
      by_cases hv : DECODE s.cfg.chkStrict
          (append s.rxbuf (s.rxq.take (readCount k s.rxq.length))) = .needMoreData
      · rw [hv] at hrest
        have hlater := ih (s := afterRead k (withSched (ks.map Event.rx) s)) rfl hwait
          (append_wf _ hcap) hv hrest
        have hall : append (afterRead k (withSched (ks.map Event.rx) s)).rxbuf
            (afterRead k (withSched (ks.map Event.rx) s)).rxq = append s.rxbuf s.rxq :=
          (append_append hcap _ _).trans (congrArg _ hsplit)
        rw [hall] at hlater
        exact hlater
      · have hall := DECODE_append_of_read hcap _ (s.rxq.drop (readCount k s.rxq.length)) hv
        rw [hsplit] at hall
        have hended := run_reads_of_ended (s := settleVerdict _ _)
          (settleVerdict_sched _ (afterRead k (withSched (ks.map Event.rx) s)))
          (by rw [settleVerdict_eng_idle hv]; simp)
        obtain rfl := Host.Outcome.next.inj (hended.symm.trans hrest)
        rw [hall, unread_settleVerdict]
        rfl

/-- Settles O50: either sequence of reads leaves what one read of all of RXQ leaves. -/
theorem chunkingDoesNotMatter : Obligations.ChunkingDoesNotMatter := by
  intro s t t' ks ks' hs hwait hrun hrun' hdone hdone'
  have hmore := hs.block.waitBuffer hwait
  have hread := run_reads (s := { s with sched := ks.map Event.rx }) rfl hwait hs.block.rxCap hmore
    hrun hdone
  have hread' := run_reads (s := { s with sched := ks'.map Event.rx }) rfl hwait hs.block.rxCap hmore
    hrun' hdone'
  exact hread.trans hread'.symm

end Sys2Proof.Proofs
end

section
/-! SUPPORT. HOST's sequences (spec 44_host_sequences.md R240 to R253): a start, an issued command and an
outcome as one step each, the outcome of a capture said once for every sequence with one, and the
settlements of O52, O53, O54, O55, O56, O57 and O58. -/

namespace Sys2Proof.Proofs

open Sys2Proof Sys2Proof.Machine Sys2Proof.Claims

/-! ## Starting a sequence -/

/-- A start that is not refused puts HOST at the first position of the sequence. -/
theorem starts_of_no_refusal {r : Request} {s : State} (h : startRefusal r s.eng = none) :
    Starts r (r.task s.cfg) r.firstActivity s := by
  intro rest hseq hsched
  have hstep : step s = startOp r (withSched rest s) := step_cons hsched
  rw [hstep, startOp, withSched_seq, hseq, withSched_eng, h]
  rfl

theorem startRefusal_idle {r : Request} (h : r ≠ .discover) : startRefusal r .idle = none := by
  cases r with
  | discover => exact absurd rfl h
  | _ => rfl

theorem starts_in_idle {r : Request} {s : State} (hr : r ≠ .discover) (h : s.eng = .idle) :
    Starts r (r.task s.cfg) r.firstActivity s :=
  starts_of_no_refusal (h ▸ startRefusal_idle hr)

/-! ## HOST's turn as the step -/

section Turn

variable {s : State} {k : Task} {x : Activity} {att : Nat} {rest : List Event}

theorem step_turn (h : s.sched = .host .turn :: rest) : step s = hostTurn (withSched rest s) :=
  step_cons h

theorem step_turn_issue (hsched : s.sched = .host .turn :: rest)
    (hseq : s.seq = some ⟨k, .issue, att⟩) :
    step s = issueTurn ⟨k, .issue, att⟩ (withSched rest s) := by
  rw [step_turn hsched, hostTurn, withSched_seq, hseq]

theorem step_turn_attach (hsched : s.sched = .host .turn :: rest)
    (hseq : s.seq = some ⟨k, .attach, att⟩) :
    step s = .next (attachTurn ⟨k, .attach, att⟩ (withSched rest s)) := by
  rw [step_turn hsched, hostTurn, withSched_seq, hseq]

theorem step_turn_await (hsched : s.sched = .host .turn :: rest)
    (hseq : s.seq = some ⟨k, .await, att⟩) :
    step s = .next (awaitTurn ⟨k, .await, att⟩ (withSched rest s)) := by
  rw [step_turn hsched, hostTurn, withSched_seq, hseq]

theorem step_turn_close (hsched : s.sched = .host .turn :: rest)
    (hseq : s.seq = some ⟨k, .close, att⟩) :
    step s = .next (closeTurn ⟨k, .close, att⟩ (withSched rest s)) := by
  rw [step_turn hsched, hostTurn, withSched_seq, hseq]

theorem step_turn_delay {n : Nat} (hsched : s.sched = .host .turn :: rest)
    (hseq : s.seq = some ⟨k, .delay n, att⟩) : step s = .next (withSched rest s) := by
  rw [step_turn hsched, hostTurn, withSched_seq, hseq]

/-- An outcome that is there and readable is what the step goes on with. -/
theorem step_atOutcome (h : AtOutcome k att rest s) :
    step s = .next (advance ⟨k, .await, att⟩ (withSched rest s)) := by
  obtain ⟨hseq, hres, hopen, hsched⟩ := h
  have hdone : ¬(withSched rest s).doneFlag = false := by simp [State.doneFlag, hres]
  rw [step_turn_await hsched hseq, awaitTurn, if_neg hdone, if_neg (by simpa using hopen)]

/-- At an issuing position in IDLE with a session the step sends the position's command with the
sequence's timeout, and HOST awaits the outcome (R184, R254). -/
theorem step_issue {a : Word} {i : Instr} {p : List Byte} (hsched : s.sched = .host .turn :: rest)
    (hseq : s.seq = some ⟨k, .issue, att⟩) (hidle : s.eng = .idle) (haddr : s.addr = some a)
    (hcmd : k.command s.cfg s.pwd = some i) (hp : encode i = p) :
    step s = .next (commandSent (some i) (frameOf a 1 p)
      { s with sched := rest, opTimeout := k.timeout s.cfg,
               seq := some (Sequence.issued ⟨k, .issue, att⟩) }) := by
  have hnot : ¬(withSched rest s).eng = .wait := by simp [hidle]
  have hcmd' : k.command (withSched rest s).cfg (withSched rest s).pwd = some i := hcmd
  have hsent := sends_encode i
    (withTimeout (k.timeout (withSched rest s).cfg) (withSched rest s)) a hidle haddr
  rw [hp] at hsent
  rw [step_turn_issue hsched hseq, issueTurn, if_neg hnot]
  simp only [hcmd', hsent]
  rw [afterIssue_of_wait rfl]
  rfl

end Turn

/-! ## Outcomes -/

section Outcome

variable {s : State} {c : Cause}

theorem not_ok_of_failed (h : FailedWith c s) : ¬ Answered .ok s := by
  obtain ⟨n, hn, hans, -⟩ | ⟨hres, -⟩ | ⟨hres, -⟩ := h
  · exact fun hok => hn (answered_status_unique hans hok)
  · exact not_answered_of_res_ne (by simp [hres]) .ok
  · exact not_answered_of_res_ne (by simp [hres]) .ok

theorem causeOf_of_failed (h : FailedWith c s) : causeOf s = c := by
  obtain ⟨n, -, ⟨hres, hst⟩, rfl⟩ | ⟨hres, rfl⟩ | ⟨hres, rfl⟩ := h
  · exact causeOf_response hres hst
  · exact causeOf_timedOut hres
  · exact causeOf_malformed hres

end Outcome

/-! ## The outcome of a capture (R242, R243) -/

section Capture

variable {att : Nat} {s : State}

theorem captureStep_of_ok (h : Answered .ok s) : captureStep att s = .captured :=
  if_pos ((okOutcome_iff s).2 h)

theorem captureStep_of_not_ok (h : ¬ Answered .ok s) :
    captureStep att s =
      if s.res = .response ∧ s.st = some .noFingerDetected then
        if att = RETRY_CEILING then .captureTimeout else .retry
      else .failed (causeOf s) :=
  if_neg (mt (okOutcome_iff s).1 h)

theorem captureStep_of_noFinger (h : Answered .noFingerDetected s) :
    captureStep att s = if att = RETRY_CEILING then .captureTimeout else .retry := by
  have hnot : ¬ Answered .ok s := fun hok => absurd (answered_status_unique h hok) (by decide)
  exact (captureStep_of_not_ok hnot).trans (if_pos h)

theorem captureStep_of_failed {c : Cause} (h : FailedWith c s)
    (hnot : ¬ Answered .noFingerDetected s) : captureStep att s = .failed c := by
  rw [captureStep_of_not_ok (not_ok_of_failed h), causeOf_of_failed h]
  exact if_neg hnot

end Capture

/-- The two ends of a command whose outcome is tested for Ok. -/
theorem step_after_test {k : Task} {att : Nat} {rest : List Event} {s : State}
    {onOk onOther : State → State} (hout : AtOutcome k att rest s)
    (hq : TestsOkAt ⟨k, .await, att⟩ onOk onOther) :
    (Answered .ok s → step s = .next (onOk (withSched rest s))) ∧
    (¬ Answered .ok s → step s = .next (onOther (withSched rest s))) := by
  rw [step_atOutcome hout, hq]
  exact ⟨fun hok => congrArg _ (if_pos ((okOutcome_iff (withSched rest s)).mpr hok)),
    fun hnot => congrArg _ (if_neg (mt (okOutcome_iff (withSched rest s)).mp hnot))⟩

/-- The four ends of an attempt, for every sequence whose position is a capture. -/
theorem step_after_capture {k : Task} {att : Nat} {rest : List Event} {s : State}
    {onOk : State → State} {onFail : Cause → SeqResult} (hout : AtOutcome k att rest s)
    (hq : CapturesAt ⟨k, .await, att⟩ onOk onFail) :
    (Answered .ok s → step s = .next (onOk (withSched rest s))) ∧
    (Answered .noFingerDetected s → att = 10 →
      step s = .next (returned .captureTimeout rest s)) ∧
    (Answered .noFingerDetected s → att ≠ 10 →
      step s = .next (moved ⟨k, pause s.cfg.nofingerDelay, att⟩ rest s)) ∧
    (∀ c, FailedWith c s → ¬ Answered .noFingerDetected s →
      step s = .next (returned (onFail c) rest s)) := by
  have hstep {c : CaptureStep} (hc : captureStep att (withSched rest s) = c) :
      step s = .next (afterCapture ⟨k, .await, att⟩ onOk onFail c (withSched rest s)) := by
    rw [step_atOutcome hout, hq, ← hc]
  refine ⟨fun hok => hstep (captureStep_of_ok hok), fun hno hlast => ?_, fun hno hmore => ?_,
    fun c hfail hno => hstep (captureStep_of_failed (s := withSched rest s) hfail hno)⟩
  · exact hstep ((captureStep_of_noFinger (s := withSched rest s) hno).trans (if_pos hlast))
  · exact hstep ((captureStep_of_noFinger (s := withSched rest s) hno).trans (if_neg hmore))

/-! ## verify_password and capture-with-retry (R241, R242) -/

/-- Settles O52: the start, the issued command, and the test for Ok. -/
theorem verifyPasswordSequence : Obligations.VerifyPasswordSequence := by
  intro s t att rest
  refine ⟨starts_in_idle (r := .verifyPassword t) (by simp), fun a p hseq hsched hidle haddr hpwd => ?_,
    fun hout => (step_after_test hout (verifyPassword_testsOkAt t .await att) :)⟩
  exact step_issue hsched hseq hidle haddr (by rw [Task.command, hpwd]; rfl)
    (by rw [encode, be32_eq_bytesOf4])

/-- Settles O53: the start, the issued command, and the four ends of an attempt. -/
theorem captureWithRetry : Obligations.CaptureWithRetry := by
  intro s t att rest
  refine ⟨starts_in_idle (r := .captureWithRetry t) (by simp), fun a hseq hsched hidle haddr => ?_,
    fun hout => step_after_capture hout (captureWithRetry_capturesAt t .await att)⟩
  exact step_issue hsched hseq hidle haddr rfl rfl

/-! ## identify (R245, R246) -/

theorem searchResult_of_match {s : State} {m : Half × Half} (hok : Answered .ok s)
    (hm : matchFields s.extra = some m) : searchResult s = .matched m.1 m.2 := by
  simp only [searchResult, readSearch_of_match hok hm]

theorem searchResult_of_short {s : State} (hok : Answered .ok s) (hshort : s.extra.length < 4) :
    searchResult s = .protocolError := by
  simp only [searchResult, readSearch_of_short hok hshort]

theorem searchResult_of_not_ok {s : State} {n : Status} (hn : n ≠ .ok) (hans : Answered n s) :
    searchResult s = .notFound := by
  simp only [searchResult, readSearch_of_not_ok hn hans]

theorem searchResult_of_no_response {s : State} (hres : s.res ≠ .response) :
    searchResult s = .protocolError := by
  simp only [searchResult, readSearch_of_no_response hres]

/-- After its search identify returns what the outcome says. -/
theorem step_after_search {s : State} {t : Word} {att : Nat} {rest : List Event} {r : SeqResult}
    (hout : AtOutcome (.identify t .search) att rest s) (hr : searchResult s = r) :
    step s = .next (returned r rest s) := by
  rw [step_atOutcome hout, ← hr]
  rfl

/-- Settles O54: the ends of the capture, the test for Ok after the convert, and the reading of the
search. -/
theorem identifySequence : Obligations.IdentifySequence := by
  intro s t att rest
  refine ⟨starts_in_idle (r := .identify t) (by simp),
    fun hout => step_after_capture hout (identify_capturesAt t .await att),
    fun hout => (step_after_test hout (identify_testsOkAt t .await att) :),
    fun hout => ⟨fun e0 e1 e2 e3 more hok hextra => ?_,
      fun hok hshort => step_after_search hout (searchResult_of_short hok hshort),
      fun n hn hans => step_after_search hout (searchResult_of_not_ok hn hans), fun hres => ?_⟩⟩
  · exact step_after_search hout
      (searchResult_of_match hok (by rw [hextra, matchFields_of_four]))
  · refine step_after_search hout (searchResult_of_no_response ?_)
    obtain hres | hres := hres <;> simp [hres]

/-! ## enroll (R247 to R249) -/

/-- A command of enroll that is no capture: Ok goes on, a failure ends with the phase and the cause. -/
theorem step_after_enroll_test {s : State} {loc : Half} {t : Word} {p : EnrollPhase} {att : Nat}
    {rest : List Event} {onOk : State → State} (hout : AtOutcome (.enroll loc t p) att rest s)
    (hq : TestsOkAt ⟨.enroll loc t p, .await, att⟩ onOk (phaseFailure p)) :
    (Answered .ok s → step s = .next (onOk (withSched rest s))) ∧
    (∀ c, FailedWith c s → step s = .next (returned (.phaseFailed p c) rest s)) := by
  obtain ⟨hok, hother⟩ := step_after_test hout hq
  refine ⟨hok, fun c hfail => ?_⟩
  rw [hother (not_ok_of_failed hfail), phaseFailure,
    causeOf_of_failed (s := withSched rest s) hfail]
  rfl

/-- Settles O55: the ends of either capture, and the test for Ok after the four other commands. -/
theorem enrollSequence : Obligations.EnrollSequence := by
  intro s loc t att rest
  refine ⟨starts_in_idle (r := .enroll loc t) (by simp), fun p next hphase hout => ?_,
    fun p next x hphase hout => ?_,
    fun hout => step_after_enroll_test hout (enroll_testsOkAt_store loc t .await att)⟩
  · obtain ⟨rfl, rfl⟩ | ⟨rfl, rfl⟩ := hphase
    · exact step_after_capture hout (enroll_capturesAt_first loc t .await att)
    · exact step_after_capture hout (enroll_capturesAt_second loc t .await att)
  · obtain ⟨rfl, rfl, rfl⟩ | ⟨rfl, rfl, rfl⟩ | ⟨rfl, rfl, rfl⟩ := hphase
    · exact step_after_enroll_test hout (enroll_testsOkAt_convertFirst loc t .await att)
    · exact step_after_enroll_test hout (enroll_testsOkAt_convertSecond loc t .await att)
    · exact step_after_enroll_test hout (enroll_testsOkAt_register loc t .await att)

/-! ## discover (R252, R253) -/

/-- With a candidate left in CLOSED, HOST attaches its transport and opens the session. -/
theorem attachTurn_next {c : Candidate} {left : List Candidate} {x : Activity} {att : Nat} {s : State}
    (hclosed : s.eng = .closed) :
    attachTurn ⟨.discover (c :: left), x, att⟩ s =
      goto (.discover left) .issue
        (openEffect s.cfg.sessionAddr s.cfg.sessionPwd
          (attachTransport (candidateTransport s.cfg c) s)) := by
  simp only [attachTurn, hclosed, openOp, attachTransport_eng]

theorem closeTurn_idle {q : Sequence} {s : State} (hidle : s.eng = .idle) :
    closeTurn q s = goto q.task .attach
      { s with addr := none, pwd := none, eng := .closed, reply := .accepted } := by
  rw [closeTurn, hidle, closeOp_idle hidle]

/-- Settles O56: the start, the turns of the attach position, the test for Ok, and the CLOSE. -/
theorem discoverSequence : Obligations.DiscoverSequence := by
  refine ⟨fun s hclosed => starts_of_no_refusal (r := .discover) (by rw [hclosed]; rfl),
    fun s att rest hsched => ⟨fun hseq => step_turn_attach hsched hseq,
      fun c left hclosed hseq => ?_,
      fun left hout => (step_after_test hout (discover_testsOkAt left .await att) :),
      fun left hidle hseq => ?_⟩⟩
  · rw [step_turn_attach hsched hseq, attachTurn_next (s := withSched rest s) hclosed]
    rfl
  · rw [step_turn_close hsched hseq, closeTurn_idle (s := withSched rest s) hidle]
    rfl

/-! ## What a sequence issues (R240, R254) -/

/-- Settles O57: `step_issue` at each position, and nothing in WAIT. -/
theorem sequenceIssuesItsCommand : Obligations.SequenceIssuesItsCommand := by
  intro s k att rest a pw hsched hseq
  refine ⟨fun hwait => ?_, fun hidle haddr hpwd => ?_⟩
  · exact (step_turn_issue hsched hseq).trans (if_pos hwait)
  · have hissue {i : Instr} {p : List Byte} (hcmd : k.command s.cfg s.pwd = some i)
        (hp : encode i = p) := step_issue hsched hseq hidle haddr hcmd hp
    refine ⟨?_, ?_, ?_, ?_, ?_, ?_, ?_, ?_, ?_⟩
    · rintro t rfl
      exact hissue rfl rfl
    · rintro t rfl
      exact hissue (i := .search 1 s.cfg.dbRangeLow s.cfg.dbRangeHigh) rfl
        (by rw [encode, be16_eq_bytesOf2, be16_eq_bytesOf2])
    · rintro t rfl
      exact hissue rfl rfl
    · rintro loc t (rfl | rfl) <;> exact hissue rfl rfl
    · rintro loc t rfl
      exact hissue rfl rfl
    · rintro loc t rfl
      exact hissue rfl rfl
    · rintro loc t rfl
      exact hissue rfl rfl
    · rintro loc t rfl
      exact hissue (i := .storeModel 1 loc) rfl (by rw [encode, be16_eq_bytesOf2])
    · rintro left rfl
      exact hissue (by rw [Task.command, hpwd]; rfl) (by rw [encode, be32_eq_bytesOf4])

/-! ## Waiting in ticks (R244, R249, R303) -/

theorem tickHost_delay {s : State} {k : Task} {n att : Nat} (h : s.seq = some ⟨k, .delay n, att⟩) :
    tickHost s = { s with seq := some ⟨k, pause (n - 1), att⟩ } := by
  rw [tickHost, h]
  rfl

/-- Settles O58: a tick reaches the delay whatever it does in the block; the turns that cannot go on. -/
theorem hostWaitsInTicks : Obligations.HostWaitsInTicks := by
  intro s k att n rest
  refine ⟨fun hseq hsched => ?_, fun hseq hsched => step_turn_delay hsched hseq,
    fun hseq hres hsched => ?_, fun hseq hres hclosed hsched => ?_⟩
  · have hdelay : (tickBlock (withSched rest s)).seq = some ⟨k, .delay n, att⟩ :=
      (tickBlock_seq _).trans hseq
    rw [step_tick hsched, tickHost_delay hdelay]
    refine ⟨fun hnot => ?_, _, rfl, rfl⟩
    rw [tickBlock_of_ne_wait (s := withSched rest s) hnot]
    rfl
  · have hpending : (withSched rest s).doneFlag = false := by simp [State.doneFlag, hres]
    rw [step_turn_await hsched hseq, awaitTurn, if_pos hpending]
    rfl
  · have hdone : ¬(withSched rest s).doneFlag = false := by simp [State.doneFlag, hres]
    rw [step_turn_await hsched hseq, awaitTurn, if_neg hdone, if_pos (by simpa using hclosed)]
    rfl

end Sys2Proof.Proofs
end
